-- ==== Sys2Proof/Word.lean ====
section
/-! DEFINITION. The value types of CORE's ports: bit vectors, levels, dividers, the event payloads of
rules R80 to R85, the enumerations of rules R97 to R99, the port words of rules R107 and R110.
Types only; every table or computation over them stands in `Machine/Operands.lean`. -/

namespace Sys2Proof

/-- Eight bits: a byte of the TD frame, a customer ID, a wire code. -/
abbrev Byte := BitVec 8

/-- Four bits: a data nibble of the EM4100 frame. -/
abbrev Nibble := BitVec 4

/-- Thirty-two bits: a token, an EPROM word, a T5557 data word or password. -/
abbrev Word32 := BitVec 32

/-- A level of the carrier envelope (R9, R80): `High` or `Low`. -/
inductive Level where
  | low
  | high
deriving DecidableEq, Repr, Inhabited

/-- A carrier divider (R7, R21): one of 16, 32, 64; no other value is ever held. -/
inductive Divider where
  | d16
  | d32
  | d64
deriving DecidableEq, Repr, Inhabited

/-- The line code of the read path (R8, R151): exactly two variants. -/
inductive LineCode where
  | manchester
  | biphase
deriving DecidableEq, Repr, Inhabited

/-- A Sample (R80): an unsigned number of microseconds and a level. The width `DUR_W` is a parameter,
so the duration is a natural number and the width is checked where a Sample enters. -/
structure Sample where
  dur : Nat
  level : Level
deriving DecidableEq, Repr

/-- A PulseEvent (R81). -/
structure PulseEvent where
  level : Level
  isLong : Bool
deriving DecidableEq, Repr

/-- A closed interval of durations in microseconds (R23, R122): both ends are inside. -/
structure Range where
  min : Nat
  max : Nat
deriving DecidableEq, Repr

/-- What a duration is with respect to the current windows (R122). -/
inductive PulseClass where
  | short
  | long
  | none
deriving DecidableEq, Repr

/-- The three framing faults of TD (R251, R252). -/
inductive FramingKind where
  | rowParity
  | stopBit
  | columnParity
deriving DecidableEq, Repr

/-- The faults a TE command can return in place of a train (R251, R254, R256), with the value each records. -/
inductive CommandFault where
  | tooManyPulses (distinct : Nat)
  | tooManySamples (count : Nat)
  | invalidParameter
deriving DecidableEq, Repr

/-- The T5557 data rates (R97), named by their divisor. -/
inductive DataRate where
  | rf8
  | rf16
  | rf32
  | rf40
  | rf50
  | rf64
  | rf100
  | rf128
deriving DecidableEq, Repr

/-- The T5557 modulations (R98). -/
inductive Modulation where
  | direct
  | psk1
  | psk2
  | psk3
  | fsk1
  | fsk2
  | fsk1a
  | fsk2a
  | manchester
  | biphase
deriving DecidableEq, Repr

/-- The T5557 PSK subcarriers (R99). -/
inductive PskSubcarrier where
  | rf2
  | rf4
  | rf8
deriving DecidableEq, Repr

/-- T5557Parameters (R38) as `TE.ENCODE_PARAMS` receives them on its operand ports (R110): the three
enumerations are ordinals, so a port can carry an ordinal that names no value (R219). -/
structure ParamsPort where
  lock : Bool
  masterKey : BitVec 4
  dataRate : BitVec 3
  modulation : BitVec 4
  pskSubcarrier : BitVec 2
  answerOnRequest : Bool
  maxBlock : BitVec 3
  password : Bool
  sequenceTerminator : Bool
  powerOnResetDelay : Bool
deriving DecidableEq, Repr

/-- The RC codes of the device wire protocol (R236). -/
inductive WireRc where
  | ok
  | invalidCmd
  | busy
  | invalidVal
  | timeout
deriving DecidableEq, Repr, Inhabited

/-- The status codes of the device wire protocol (R235). -/
inductive WireStatus where
  | unknown
  | ok
  | timeout
  | inProgress
deriving DecidableEq, Repr, Inhabited

/-- The transfer flags of the device wire protocol (R234). -/
inductive WireFlag where
  | firstOnStart
  | startOnEdge
  | fallingEdge
  | txMode
deriving DecidableEq, Repr

/-- Which port or format a word belongs to: CORE has no opcode bits, so an operation is selected by the
port it arrives on (R107, R108, and the `select` entries of the operation table). -/
inductive Port where
  | sample
  | mdPulse
  | mdSync
  | bdPulse
  | bdSync
  | bit
  | generate
  | encodeBlock
  | encodeParams
  | reset
  | sync
  | token
  | framingFault
  | frame
  | epromW0
  | epromW1
  | cmdShort
  | cmdLong
  | opcode
  | configWord
  | dataRate
  | modulation
  | psk
  | train
  | faultCode
  | wireCommand
  | wireFlag
  | wireStatus
  | wireRc
deriving DecidableEq, Repr

/-- One transaction as the ports carry it: the port, and one number per operand port of it (R107, R110).
A port of one word has one lane; `TE` and `EE` commands have "separate operand ports", one lane each. -/
structure PortWord where
  port : Port
  lanes : List Nat
deriving DecidableEq, Repr

/-- Why a port word is no instruction of the table: the names under which the decoder rejects. -/
inductive Reject where
  /-- the port does not have this number of operand lanes -/
  | laneCount
  /-- an operand does not fit its port -/
  | laneTooWide
  /-- a port code that the spec says is never produced (R107) -/
  | unusedPortCode
  /-- a SyncAcquired word at MD's sync input: no row of the table, and no effect (R162); a step consumes it -/
  | mdSyncAcquired
  /-- a SyncAcquired word at BD's sync input: no row of the table, and no effect (R162); a step consumes it -/
  | bdSyncAcquired
  /-- a FramingFault word whose group index does not belong to its kind (R85, R107) -/
  | nibbleIndex
  /-- a bit the format fixes has the other value (R86, R87, R90, R96) -/
  | fixedBit
  /-- a modulation or PSK-subcarrier code that no enumeration value has (R98, R99) -/
  | unusedFieldCode
  /-- a T5557 opcode other than the two write opcodes (R91) -/
  | opcode
  /-- a Sample list that is not a pulse train of rule R101 -/
  | notATrain
  /-- a fault cause code outside 1 to 6 (R251) -/
  | faultCode
  /-- a wire command code outside 0x00 to 0x0a (R233) -/
  | wireCommand
  /-- an Index with none of the four flags set, on the port of a flag (R234) -/
  | wireFlag
  /-- a status byte other than 0 to 3 (R235) -/
  | wireStatus
  /-- an RC byte other than 0 to 4 (R236) -/
  | wireRc
deriving DecidableEq, Repr

/-- The three kinds of atomic step that CORE takes (R13). -/
inductive StepKind where
  /-- (a) one Sample, with every event it causes -/
  | sample
  /-- (b) one write-path command -/
  | writeCommand
  /-- (c) `RESET` -/
  | reset
deriving DecidableEq, Repr

end Sys2Proof
end

