-- ==== Sys2Proof/Config.lean ====
section
/-! DEFINITION. The parameters of rule R8, which the host of CORE drives as inputs (R39), and the free
values: what the reader device answers, which the spec leaves open. -/

namespace Sys2Proof

/-- The read-path configuration (R8, R39): sampled by `RESET` and constant until the next one (R72, R281). -/
structure ReadConfig where
  /-- `LINE_CODE` (R151) -/
  lineCode : LineCode
  /-- `INIT_DIVIDER` (R21); outside 16, 32, 64 it is refused at configuration, so the type holds the three -/
  initDivider : Divider
  /-- `DUR_W`, the width of a Sample duration in bits (R80) -/
  durW : Nat
  /-- `MD_RESET_OUTPUT` (R28) -/
  mdResetOutput : Level
deriving DecidableEq, Repr

/-- The write-path parameters (R8, R39): read afresh by every command (R224, R285). Durations in microseconds. -/
structure WriteConfig where
  /-- `TC_US`, microseconds per carrier cycle (R102) -/
  tcUs : Nat
  /-- `T_START_GAP` -/
  tStartGap : Nat
  /-- `T_WRITE_GAP` -/
  tWriteGap : Nat
  /-- `T_ONE` -/
  tOne : Nat
  /-- `T_ZERO` -/
  tZero : Nat
  /-- `PULSE_VEC_SIZE`, the device's capacity in distinct durations (R217, R240) -/
  pulseVecSize : Nat
  /-- `SAMPLE_VEC_SIZE`, the device's capacity in Samples (R217, R240) -/
  sampleVecSize : Nat
deriving DecidableEq, Repr

/-- All configuration inputs of CORE. -/
structure Config where
  read : ReadConfig
  write : WriteConfig
deriving DecidableEq, Repr

/-- The defaults of rule R8. DESIGN CHOICE (unsafe): the two capacities have no default in the spec; the
model takes the smallest pair at which rule R221 makes capacity faults impossible (`notes/assumptions/5.md`). -/
def Config.default : Config where
  read := { lineCode := .manchester, initDivider := .d16, durW := 16, mdResetOutput := .low }
  write := { tcUs := 8, tStartGap := 240, tWriteGap := 160, tOne := 448, tZero := 192, pulseVecSize := 4, sampleVecSize := 141 }

/-- Free value: which of the five RC codes (R236) the reader device answers with (`notes/assumptions/9.md`). -/
opaque Config.freeRc : Nat → WireRc

/-- Free value: which of the four status codes (R235) the reader device answers with. -/
opaque Config.freeStatus : Nat → WireStatus

/-- Free value: a response byte of the reader device whose content the spec does not give (R233). -/
opaque Config.freeByte : Nat → Byte

/-- Free value: response bytes whose number and layout the spec does not give (R233: "raw bulk bytes", a dash). -/
opaque Config.freeBulk : Nat → List Byte

/-- Free value: whether the reader's coil is on after the wire RESET (R241 does not say), or after a COIL_ENABLE whose
Value is neither 0 nor 1 (R233 does not say; `notes/assumptions/16.md`). -/
opaque Config.freeCoil : Nat → Bool

end Sys2Proof
end

