-- ==== Sys2Proof/Machine/Operands.lean ====
section
/-! DEFINITION. Operand formats and computations over them: dividers and windows (R121, R122), nibbles,
parity and bit reversal (R88, R89), the EM4100 frame and its image (R86, R87), the T5557 command frame,
configuration word and train (R90 to R101), code tables (R97 to R99, R107, R110, R233 to R236, R251). -/

namespace Sys2Proof

/-! ## Levels, dividers, windows -/

/-- High = 1, Low = 0 (R9). -/
def Level.bit : Level → Bool
  | .low => false
  | .high => true

/-- The level of a bit, the inverse of `Level.bit`. -/
def Level.ofBit : Bool → Level
  | false => .low
  | true => .high

/-- The opposite level. -/
def Level.flip : Level → Level
  | .low => .high
  | .high => .low

/-- The number a divider stands for. -/
def Divider.value : Divider → Nat
  | .d16 => 16
  | .d32 => 32
  | .d64 => 64

/-- `next_divider` (R128): 16 to 32, 32 to 64, 64 to 16. -/
def Divider.next : Divider → Divider
  | .d16 => .d32
  | .d32 => .d64
  | .d64 => .d16

/-- `shortLen` of rule R121: `divider * 8 / 2` microseconds. -/
def Divider.shortLen (d : Divider) : Nat := d.value * 8 / 2

/-- `longLen` of rule R121: the short length doubled. -/
def Divider.longLen (d : Divider) : Nat := 2 * d.shortLen

/-- A window of a quarter either side of a length (R121). -/
def windowAround (len : Nat) : Range := { min := len - len / 4, max := len + len / 4 }

/-- `shortRange` of `windows(d)` (R121). -/
def Divider.shortRange (d : Divider) : Range := windowAround d.shortLen

/-- `longRange` of `windows(d)` (R121). -/
def Divider.longRange (d : Divider) : Range := windowAround d.longLen

/-- Membership with both ends inside (R122). -/
def Range.holds (r : Range) (dur : Nat) : Bool := decide (r.min ≤ dur) && decide (dur ≤ r.max)

/-- `classify(dur)` with respect to the windows given (R122). -/
def classify (shortRange longRange : Range) (dur : Nat) : PulseClass :=
  if shortRange.holds dur then .short else if longRange.holds dur then .long else .none

/-! ## Bits and nibbles -/

/-- Least significant bit first: `[v[0], ..., v[w-1]]` (R9). -/
def lsbFirst {w : Nat} (v : BitVec w) : List Bool := (List.range w).map v.getLsbD

/-- Most significant bit first: `[v[w-1], ..., v[0]]` (R9). -/
def msbFirst {w : Nat} (v : BitVec w) : List Bool := (lsbFirst v).reverse

/-- `parity4`: the even-parity bit of a nibble (R89). -/
def parity4 (n : Nibble) : Bool := n[3] ^^ n[2] ^^ n[1] ^^ n[0]

/-- `rev4`: the nibble with its bits reversed, `n[0] ++ n[1] ++ n[2] ++ n[3]` (R11, R88). -/
def rev4 (n : Nibble) : Nibble :=
  BitVec.ofBool n[0] ++ BitVec.ofBool n[1] ++ BitVec.ofBool n[2] ++ BitVec.ofBool n[3]

/-- The ten data nibbles `N_0 .. N_9` in frame order (R86, R192). -/
def nibblesOf (id : Byte) (token : Word32) : List Nibble :=
  [id.extractLsb' 4 4, id.extractLsb' 0 4,
   token.extractLsb' 28 4, token.extractLsb' 24 4, token.extractLsb' 20 4, token.extractLsb' 16 4,
   token.extractLsb' 12 4, token.extractLsb' 8 4, token.extractLsb' 4 4, token.extractLsb' 0 4]

/-- The column parity `P = N_0 ^ ... ^ N_9` (R86, R194). -/
def columnOf (id : Byte) (token : Word32) : Nibble := (nibblesOf id token).foldl (· ^^^ ·) 0

/-- The ten row-parity bits of a valid frame, bit `j` being `parity4(N_j)` (R86). -/
def rowsOf (id : Byte) (token : Word32) : BitVec 10 :=
  BitVec.ofBool (parity4 (token.extractLsb' 0 4)) ++ BitVec.ofBool (parity4 (token.extractLsb' 4 4))
    ++ BitVec.ofBool (parity4 (token.extractLsb' 8 4)) ++ BitVec.ofBool (parity4 (token.extractLsb' 12 4))
    ++ BitVec.ofBool (parity4 (token.extractLsb' 16 4)) ++ BitVec.ofBool (parity4 (token.extractLsb' 20 4))
    ++ BitVec.ofBool (parity4 (token.extractLsb' 24 4)) ++ BitVec.ofBool (parity4 (token.extractLsb' 28 4))
    ++ BitVec.ofBool (parity4 (id.extractLsb' 0 4)) ++ BitVec.ofBool (parity4 (id.extractLsb' 4 4))

/-! ## EM4100 frame and EPROM image -/

/-- A frame in air order (R86): nine ones, ten groups of a nibble MSB-first and its fifth bit, the column
nibble MSB-first, the stop bit 0. The row bits and the column nibble are given, not computed, so that a
frame with wrong check bits can be written too. -/
def airFrame (id : Byte) (token : Word32) (rows : BitVec 10) (column : Nibble) : List Bool :=
  List.replicate 9 true
    ++ (nibblesOf id token).zipIdx.flatMap (fun nj => msbFirst nj.1 ++ [rows.getLsbD nj.2])
    ++ msbFirst column ++ [false]

/-- The 64-bit number whose bit `i` is frame bit `f[i]` (R87): the groups sit bit-reversed, the first lowest. -/
def frameWord (id : Byte) (token : Word32) (rows : BitVec 10) (column : Nibble) : BitVec 64 :=
  BitVec.ofBool false ++ rev4 column
    ++ BitVec.ofBool (rows.getLsbD 9) ++ rev4 (token.extractLsb' 0 4)
    ++ BitVec.ofBool (rows.getLsbD 8) ++ rev4 (token.extractLsb' 4 4)
    ++ BitVec.ofBool (rows.getLsbD 7) ++ rev4 (token.extractLsb' 8 4)
    ++ BitVec.ofBool (rows.getLsbD 6) ++ rev4 (token.extractLsb' 12 4)
    ++ BitVec.ofBool (rows.getLsbD 5) ++ rev4 (token.extractLsb' 16 4)
    ++ BitVec.ofBool (rows.getLsbD 4) ++ rev4 (token.extractLsb' 20 4)
    ++ BitVec.ofBool (rows.getLsbD 3) ++ rev4 (token.extractLsb' 24 4)
    ++ BitVec.ofBool (rows.getLsbD 2) ++ rev4 (token.extractLsb' 28 4)
    ++ BitVec.ofBool (rows.getLsbD 1) ++ rev4 (id.extractLsb' 0 4)
    ++ BitVec.ofBool (rows.getLsbD 0) ++ rev4 (id.extractLsb' 4 4)
    ++ (0x1FF : BitVec 9)

/-- The 5-bit group of the image: parity above the reversed nibble (R193). -/
def imageGroup (n : Nibble) : BitVec 5 := BitVec.ofBool (parity4 n) ++ rev4 n

/-- What `EE.GENERATE` carries from one nibble to the next (R198). -/
structure ImageAcc where
  image : BitVec 64
  pos : Nat
  acc : Nibble
deriving DecidableEq, Repr

/-- One turn of the loop of rule R198. -/
def imageStep (a : ImageAcc) (n : Nibble) : ImageAcc :=
  { image := a.image ||| (imageGroup n).setWidth 64 <<< a.pos, pos := a.pos + 5, acc := a.acc ^^^ n }

/-- The 64-bit EPROM image that `EE.GENERATE` computes (R196, R198). -/
def epromImage (id : Byte) (token : Word32) : BitVec 64 :=
  let a := (nibblesOf id token).foldl imageStep { image := 0x1FF, pos := 9, acc := 0 }
  a.image ||| (rev4 a.acc).setWidth 64 <<< a.pos

/-- `W0`, the low word of the image (R196). -/
def epromW0 (id : Byte) (token : Word32) : Word32 := (epromImage id token).extractLsb' 0 32

/-- `W1`, the high word of the image (R196). -/
def epromW1 (id : Byte) (token : Word32) : Word32 := (epromImage id token).extractLsb' 32 32

/-- A word of the format `EPROM.W0` from its fields, top field first (R87). -/
def epromW0Word (e : BitVec 3) (p3 : Bool) (d : Nibble) (p2 : Bool) (c : Nibble) (p1 : Bool) (b : Nibble)
    (p0 : Bool) (a : Nibble) : Word32 :=
  e ++ BitVec.ofBool p3 ++ d ++ BitVec.ofBool p2 ++ c ++ BitVec.ofBool p1 ++ b ++ BitVec.ofBool p0 ++ a
    ++ (0x1FF : BitVec 9)

/-- A word of the format `EPROM.W1` from its fields, top field first (R87). -/
def epromW1Word (q : Nibble) (p9 : Bool) (n9 : Nibble) (p8 : Bool) (n8 : Nibble) (p7 : Bool) (n7 : Nibble)
    (p6 : Bool) (n6 : Nibble) (p5 : Bool) (n5 : Nibble) (p4 : Bool) (e : Bool) : Word32 :=
  BitVec.ofBool false ++ q ++ BitVec.ofBool p9 ++ n9 ++ BitVec.ofBool p8 ++ n8 ++ BitVec.ofBool p7 ++ n7
    ++ BitVec.ofBool p6 ++ n6 ++ BitVec.ofBool p5 ++ n5 ++ BitVec.ofBool p4 ++ BitVec.ofBool e

/-! ## T5557 command frame, configuration word, train -/

/-- The T5557 opcode in air order: the write marker, then the page (R91). -/
def opcodeBits (page : Bool) : List Bool := [true, page]

/-- The block address in air order (R95). -/
def blockBits (block : BitVec 3) : List Bool := msbFirst block

/-- `cmdbits` in air order (R90 to R95, R207): a password only in the long form. -/
def commandBits (page : Bool) (password : Option Word32) (lock : Bool) (dataWord : Word32) (block : BitVec 3) :
    List Bool :=
  opcodeBits page ++ (password.map msbFirst).getD [] ++ [lock] ++ lsbFirst dataWord ++ blockBits block

/-- Three bits reversed: the block address as it lies in a command frame whose bit `k` is `cmdbits[k]`. -/
def rev3 (b : BitVec 3) : BitVec 3 := BitVec.ofBool b[0] ++ BitVec.ofBool b[1] ++ BitVec.ofBool b[2]

/-- The short command frame as a number, bit `k` being `cmdbits[k]` (R90). -/
def cmdShortWord (page lock : Bool) (dataWord : Word32) (block : BitVec 3) : BitVec 38 :=
  rev3 block ++ dataWord ++ BitVec.ofBool lock ++ BitVec.ofBool page ++ (1 : BitVec 1)

/-- The long command frame as a number, bit `k` being `cmdbits[k]` (R90). -/
def cmdLongWord (page : Bool) (password : Word32) (lock : Bool) (dataWord : Word32) (block : BitVec 3) : BitVec 70 :=
  rev3 block ++ dataWord ++ BitVec.ofBool lock ++ password.reverse ++ BitVec.ofBool page ++ (1 : BitVec 1)

/-- `rateCode` (R97). -/
def DataRate.code : DataRate → BitVec 3
  | .rf8 => 0
  | .rf16 => 1
  | .rf32 => 2
  | .rf40 => 3
  | .rf50 => 4
  | .rf64 => 5
  | .rf100 => 6
  | .rf128 => 7

/-- `modCode` (R98). -/
def Modulation.code : Modulation → BitVec 5
  | .direct => 0
  | .psk1 => 1
  | .psk2 => 2
  | .psk3 => 3
  | .fsk1 => 4
  | .fsk2 => 5
  | .fsk1a => 6
  | .fsk2a => 7
  | .manchester => 8
  | .biphase => 16

/-- `pskCode` (R99). -/
def PskSubcarrier.code : PskSubcarrier → BitVec 2
  | .rf2 => 0
  | .rf4 => 1
  | .rf8 => 2

/-- The data rate of a 3-bit port ordinal, which equals its code (R110). -/
def DataRate.ofOrdinal (n : BitVec 3) : DataRate :=
  match n.toNat with
  | 0 => .rf8
  | 1 => .rf16
  | 2 => .rf32
  | 3 => .rf40
  | 4 => .rf50
  | 5 => .rf64
  | 6 => .rf100
  | _ => .rf128

/-- The modulation of a 4-bit port ordinal (R110): 10 to 15 name no value (R219). -/
def Modulation.ofOrdinal (n : BitVec 4) : Option Modulation :=
  match n.toNat with
  | 0 => some .direct
  | 1 => some .psk1
  | 2 => some .psk2
  | 3 => some .psk3
  | 4 => some .fsk1
  | 5 => some .fsk2
  | 6 => some .fsk1a
  | 7 => some .fsk2a
  | 8 => some .manchester
  | 9 => some .biphase
  | _ => none

/-- The PSK subcarrier of a 2-bit port ordinal (R110), which equals its code: 3 names no value (R219). -/
def PskSubcarrier.ofOrdinal (n : BitVec 2) : Option PskSubcarrier :=
  match n.toNat with
  | 0 => some .rf2
  | 1 => some .rf4
  | 2 => some .rf8
  | _ => none

/-- The modulation of a 5-bit configuration-word code (R98), where one has it. -/
def Modulation.ofCode (n : BitVec 5) : Option Modulation :=
  match n.toNat with
  | 0 => some .direct
  | 1 => some .psk1
  | 2 => some .psk2
  | 3 => some .psk3
  | 4 => some .fsk1
  | 5 => some .fsk2
  | 6 => some .fsk1a
  | 7 => some .fsk2a
  | 8 => some .manchester
  | 16 => some .biphase
  | _ => none

/-- The T5557 configuration word (R96, R214): each field shifted to its place, every other bit 0. -/
def configWord (masterKey : BitVec 4) (rate : DataRate) (modulation : Modulation) (psk : PskSubcarrier)
    (answerOnRequest : Bool) (maxBlock : BitVec 3) (password sequenceTerminator powerOnResetDelay : Bool) : Word32 :=
  masterKey.setWidth 32 <<< 28 ||| rate.code.setWidth 32 <<< 18 ||| modulation.code.setWidth 32 <<< 12
    ||| psk.code.setWidth 32 <<< 10 ||| (BitVec.ofBool answerOnRequest).setWidth 32 <<< 9
    ||| maxBlock.setWidth 32 <<< 5 ||| (BitVec.ofBool password).setWidth 32 <<< 4
    ||| (BitVec.ofBool sequenceTerminator).setWidth 32 <<< 3 ||| (BitVec.ofBool powerOnResetDelay).setWidth 32

/-- The configuration word of an operand record, where its ordinals name values (R214, R219). -/
def ParamsPort.word? (p : ParamsPort) : Option Word32 :=
  match Modulation.ofOrdinal p.modulation, PskSubcarrier.ofOrdinal p.pskSubcarrier with
  | some m, some k =>
    some (configWord p.masterKey (DataRate.ofOrdinal p.dataRate) m k p.answerOnRequest p.maxBlock p.password
      p.sequenceTerminator p.powerOnResetDelay)
  | _, _ => none

/-- The data pulse of a bit (R101): High, `T_ONE` or `T_ZERO`. -/
def dataPulse (w : WriteConfig) (b : Bool) : Sample := { dur := if b then w.tOne else w.tZero, level := .high }

/-- The write gap (R101): Low. -/
def writeGap (w : WriteConfig) : Sample := { dur := w.tWriteGap, level := .low }

/-- The start gap (R101): Low. -/
def startGap (w : WriteConfig) : Sample := { dur := w.tStartGap, level := .low }

/-- The pulse train of a command frame (R101, R213). -/
def trainOf (w : WriteConfig) (cmdbits : List Bool) : List Sample :=
  startGap w :: cmdbits.flatMap (fun b => [dataPulse w b, writeGap w])

/-- The part of a train after its start gap: data pulses and write gaps in turn (R101). -/
def isTrainBody (w : WriteConfig) : List Sample → Bool
  | [] => true
  | [_] => false
  | d :: g :: rest => (d == dataPulse w true || d == dataPulse w false) && g == writeGap w && isTrainBody w rest

/-- A Sample list of the form of rule R101: a start gap, then 38 or 70 bits. DESIGN CHOICE: the bits are not looked
at, so a list whose first bit is 0, an opcode that no command frame has (R91), is accepted (`notes/assumptions/18.md`). -/
def isTrain (w : WriteConfig) : List Sample → Bool
  | [] => false
  | s :: rest => s == startGap w && isTrainBody w rest && (rest.length == 76 || rest.length == 140)

/-- How many distinct durations a Sample list has; levels are not compared (R217). -/
def distinctDurations (train : List Sample) : Nat := (train.map Sample.dur).dedup.length

/-- `capacity_check` (R217): `TooManyPulses` is tested first (R218). -/
def capacityFault (w : WriteConfig) (train : List Sample) : Option CommandFault :=
  if w.pulseVecSize < distinctDurations train then some (.tooManyPulses (distinctDurations train))
  else if w.sampleVecSize < train.length then some (.tooManySamples train.length)
  else none

/-- Every write-path duration fits `DUR_W` bits; one that does not is refused at configuration (R296). -/
def durationsFit (c : Config) : Bool :=
  decide (c.write.tStartGap < 2 ^ c.read.durW) && decide (c.write.tWriteGap < 2 ^ c.read.durW)
    && decide (c.write.tOne < 2 ^ c.read.durW) && decide (c.write.tZero < 2 ^ c.read.durW)

/-! ## Codes -/

/-- The divider code of the sync-event port (R107). -/
def Divider.code : Divider → BitVec 2
  | .d16 => 0
  | .d32 => 1
  | .d64 => 2

/-- The cause code of a framing fault (R251). -/
def FramingKind.code : FramingKind → Nat
  | .rowParity => 1
  | .stopBit => 2
  | .columnParity => 3

/-- The cause code of a TE command's fault (R251). -/
def CommandFault.code : CommandFault → Nat
  | .tooManyPulses _ => 4
  | .tooManySamples _ => 5
  | .invalidParameter => 6

/-- The RC byte (R236). -/
def WireRc.code : WireRc → Byte
  | .ok => 0
  | .invalidCmd => 1
  | .busy => 2
  | .invalidVal => 3
  | .timeout => 4

/-- The status byte (R235). -/
def WireStatus.code : WireStatus → Byte
  | .unknown => 0
  | .ok => 1
  | .timeout => 2
  | .inProgress => 3

/-- The Index mask of a transfer flag (R234). -/
def WireFlag.mask : WireFlag → BitVec 16
  | .firstOnStart => 0x8000
  | .startOnEdge => 0x4000
  | .fallingEdge => 0x2000
  | .txMode => 0x1000

/-- Bytes of a frame folded for the column parity (R176): high nibble XOR low nibble shifted up. -/
def foldByte (b : Byte) : Byte := (b &&& 0xF0) ^^^ ((b &&& 0x0F) <<< 4)

end Sys2Proof
end

