-- ==== Sys2Proof/Syntax.lean ====
section
/-! DEFINITION. The instructions: one constructor for each of the 78 rows of the operation and format
table. The first ten are the operations of CORE (R108). The others are the table's events, frames,
words, codes and wire commands; `notes/assumptions/1.md` says how a row that is no operation is read. -/

namespace Sys2Proof

/-- One transaction of CORE or of its boundary, by table row. -/
inductive Instr where
  -- the ten operations of rule R108
  | csSample (level : Level) (dur : Nat)
  | mdPulse (level : Level) (isLong : Bool)
  | mdSyncLost
  | bdPulse (level : Level) (isLong : Bool)
  | bdSyncLost
  | tdBit (value : Bool)
  | eeGenerate (customerId : Byte) (token : Word32)
  | teEncodeBlock (page : Bool) (block : BitVec 3) (lock passwordSend : Bool) (password dataWord : Word32)
  | teEncodeParams (params : ParamsPort) (passwordSend : Bool) (password : Word32)
  | reset
  -- output events (R83 to R85, R107)
  | syncAcq16
  | syncAcq32
  | syncAcq64
  | syncLost
  | token (id : Byte) (data : Word32)
  | faultRow (nibIdx : BitVec 4)
  | faultStop
  | faultCol
  -- frames and words (R86, R87, R90, R91, R96)
  | em4100Frame (id : Byte) (token : Word32) (rows : BitVec 10) (column : Nibble)
  | epromW0 (e : BitVec 3) (p3 : Bool) (d : Nibble) (p2 : Bool) (c : Nibble) (p1 : Bool) (b : Nibble) (p0 : Bool) (a : Nibble)
  | epromW1 (q : Nibble) (p9 : Bool) (n9 : Nibble) (p8 : Bool) (n8 : Nibble) (p7 : Bool) (n7 : Nibble) (p6 : Bool)
      (n6 : Nibble) (p5 : Bool) (n5 : Nibble) (p4 : Bool) (e : Bool)
  | t5557CmdShort (page lock : Bool) (dataWord : Word32) (block : BitVec 3)
  | t5557CmdLong (page : Bool) (password : Word32) (lock : Bool) (dataWord : Word32) (block : BitVec 3)
  | t5557OpcodeWritePage0
  | t5557OpcodeWritePage1
  | t5557ConfigWord (masterKey : BitVec 4) (rate : DataRate) (modulation : Modulation) (psk : PskSubcarrier)
      (answerOnRequest : Bool) (maxBlock : BitVec 3) (password sequenceTerminator powerOnResetDelay : Bool)
  -- configuration-word codes (R97 to R99)
  | dataRateRf8
  | dataRateRf16
  | dataRateRf32
  | dataRateRf40
  | dataRateRf50
  | dataRateRf64
  | dataRateRf100
  | dataRateRf128
  | modulationDirect
  | modulationPsk1
  | modulationPsk2
  | modulationPsk3
  | modulationFsk1
  | modulationFsk2
  | modulationFsk1a
  | modulationFsk2a
  | modulationManchester
  | modulationBiphase
  | pskRf2
  | pskRf4
  | pskRf8
  -- the pulse train (R101)
  | train (samples : List Sample)
  -- fault cause codes (R251)
  | faultcodeRowParity
  | faultcodeStopBit
  | faultcodeColumnParity
  | faultcodeTooManyPulses
  | faultcodeTooManySamples
  | faultcodeInvalidParameter
  -- the device wire protocol (R233 to R236)
  | wireNop
  | wireGetVersion
  | wireReset
  | wireCoilEnable (value : BitVec 16)
  | wirePulseVectorRead
  | wirePulseVectorWrite
  | wireSampleVectorRead
  | wireSampleVectorWrite
  | wireGetBufferSize
  | wireTransferStart (flags prescaler : Byte) (timeout : BitVec 16)
  | wireTransferStatus (index : BitVec 16)
  | wireFlagFirstOnStart
  | wireFlagStartOnEdge
  | wireFlagFallingEdge
  | wireFlagTxMode
  | wireStatusUnknown
  | wireStatusOk
  | wireStatusTimeout
  | wireStatusInProgress
  | wireRcOk
  | wireRcInvalidCmd
  | wireRcBusy
  | wireRcInvalidVal
  | wireRcTimeout
deriving DecidableEq, Repr

end Sys2Proof
end

