-- ==== Sys2Proof/WellFormed.lean ====
section
/-! DEFINITION. Which instructions a port can carry. Most operands have the width of their port by type;
what is left is the width of a duration (R80), the group index of a row fault (R85) and the form of a
train (R101). -/

namespace Sys2Proof

/-- A duration fits `DUR_W` bits (R80). -/
def durationFits (c : Config) (dur : Nat) : Bool := decide (dur < 2 ^ c.read.durW)

/-- The port can carry the instruction under the configuration given. -/
def WellFormed (c : Config) : Instr → Bool
  | .csSample _ dur => durationFits c dur
  | .faultRow nibIdx => decide (nibIdx.toNat ≤ 9)
  | .train samples => isTrain c.write samples && samples.all (fun s => durationFits c s.dur)
  | _ => true

end Sys2Proof
end

