-- ==== Sys2Proof/Decode.lean ====
section
/-! DEFINITION. The decoder: from a port word to an instruction, or a rejection by name. CORE has no
instruction word (`30_encoding.md`): a word is selected by its port, and its bits are the port encodings of
rules R107 and R110, the formats of rules R86 to R101 and the codes of rules R233 to R236 and R251. After
it the encoder, and the reading of a table row's bits. -/

namespace Sys2Proof

/-! ## Lanes -/

/-- The value of a lane of `w` bits. -/
def laneBits (w n : Nat) : Except Reject (BitVec w) :=
  if n < 2 ^ w then .ok (BitVec.ofNat w n) else .error .laneTooWide

/-- The value of a one-bit lane. -/
def laneBool (n : Nat) : Except Reject Bool :=
  match n with
  | 0 => .ok false
  | 1 => .ok true
  | _ => .error .laneTooWide

/-- A lane from a bit. -/
def boolLane (b : Bool) : Nat := b.toNat

/-! ## Decoding, port by port -/

/-- A Sample word (R107): `DUR_W` bits of duration, the level above them. -/
def decodeSample (durW n : Nat) : Except Reject Sample :=
  if n < 2 ^ (durW + 1) then
    .ok { dur := n % 2 ^ durW, level := Level.ofBit (decide (2 ^ durW ≤ n)) }
  else .error .laneTooWide

/-- A PulseEvent word (R107): bit 1 the level, bit 0 `isLong`. -/
def decodePulse (n : Nat) : Except Reject PulseEvent :=
  (laneBits 2 n).map fun v => { level := Level.ofBit v[1], isLong := v[0] }

/-- The sync-event word at the sync input of a line decoder (R107): 000 is its SYNCLOST, the instruction given; a
SyncAcquired, for which the table has no row here, is told apart by the name given (R162, `notes/assumptions/22.md`). -/
def decodeSyncLost (n : Nat) (lost : Instr) (acquired : Reject) : Except Reject Instr :=
  match n with
  | 0 => .ok lost
  | 4 => .error acquired
  | 5 => .error acquired
  | 6 => .error acquired
  | _ => .error .unusedPortCode

/-- A sync event on the output port (R107). -/
def decodeSync (n : Nat) : Except Reject Instr :=
  match n with
  | 0 => .ok .syncLost
  | 4 => .ok .syncAcq16
  | 5 => .ok .syncAcq32
  | 6 => .ok .syncAcq64
  | _ => .error .unusedPortCode

/-- A Token word (R107): the id in bits 39:32, the data in bits 31:0. -/
def decodeToken (n : Nat) : Except Reject Instr :=
  (laneBits 40 n).map fun v => .token (v.extractLsb' 32 8) (v.extractLsb' 0 32)

/-- A FramingFault word (R107): the kind code in bits 5:4, the group index in bits 3:0 (R85). -/
def decodeFramingFault (n : Nat) : Except Reject Instr :=
  (laneBits 6 n).bind fun v =>
    match (v.extractLsb' 4 2).toNat with
    | 1 => if (v.extractLsb' 0 4).toNat ≤ 9 then .ok (.faultRow (v.extractLsb' 0 4)) else .error .nibbleIndex
    | 2 => if (v.extractLsb' 0 4).toNat = 10 then .ok .faultStop else .error .nibbleIndex
    | 3 => if (v.extractLsb' 0 4).toNat = 10 then .ok .faultCol else .error .nibbleIndex
    | _ => .error .unusedPortCode

/-- The nibble of an image whose group `j` starts at bit `9 + 5j`, un-reversed (R87). -/
def imageNibble (v : BitVec 64) (j : Nat) : Nibble := rev4 (v.extractLsb' (9 + 5 * j) 4)

/-- The fifth bits of groups 0 to 9 of an image (R86, R87). -/
def imageRows (v : BitVec 64) : BitVec 10 :=
  BitVec.ofBool (v.getLsbD 58) ++ BitVec.ofBool (v.getLsbD 53) ++ BitVec.ofBool (v.getLsbD 48)
    ++ BitVec.ofBool (v.getLsbD 43) ++ BitVec.ofBool (v.getLsbD 38) ++ BitVec.ofBool (v.getLsbD 33)
    ++ BitVec.ofBool (v.getLsbD 28) ++ BitVec.ofBool (v.getLsbD 23) ++ BitVec.ofBool (v.getLsbD 18)
    ++ BitVec.ofBool (v.getLsbD 13)

/-- A frame as a 64-bit number whose bit `i` is frame bit `f[i]` (R86, R87). -/
def decodeFrame (n : Nat) : Except Reject Instr :=
  (laneBits 64 n).bind fun v =>
    if v.extractLsb' 0 9 = 0x1FF ∧ v.getLsbD 63 = false then
      .ok (.em4100Frame (imageNibble v 0 ++ imageNibble v 1)
        (imageNibble v 2 ++ imageNibble v 3 ++ imageNibble v 4 ++ imageNibble v 5 ++ imageNibble v 6 ++ imageNibble v 7
          ++ imageNibble v 8 ++ imageNibble v 9)
        (imageRows v) (imageNibble v 10))
    else .error .fixedBit

/-- A word of the format `EPROM.W0` (R87). -/
def decodeEpromW0 (n : Nat) : Except Reject Instr :=
  (laneBits 32 n).bind fun v =>
    if v.extractLsb' 0 9 = 0x1FF then
      .ok (.epromW0 (v.extractLsb' 29 3) (v.getLsbD 28) (v.extractLsb' 24 4) (v.getLsbD 23) (v.extractLsb' 19 4)
        (v.getLsbD 18) (v.extractLsb' 14 4) (v.getLsbD 13) (v.extractLsb' 9 4))
    else .error .fixedBit

/-- A word of the format `EPROM.W1` (R87). -/
def decodeEpromW1 (n : Nat) : Except Reject Instr :=
  (laneBits 32 n).bind fun v =>
    if v.getLsbD 31 = false then
      .ok (.epromW1 (v.extractLsb' 27 4) (v.getLsbD 26) (v.extractLsb' 22 4) (v.getLsbD 21) (v.extractLsb' 17 4)
        (v.getLsbD 16) (v.extractLsb' 12 4) (v.getLsbD 11) (v.extractLsb' 7 4) (v.getLsbD 6) (v.extractLsb' 2 4)
        (v.getLsbD 1) (v.getLsbD 0))
    else .error .fixedBit

/-- A short command frame as a number whose bit `k` is `cmdbits[k]` (R90). -/
def decodeCmdShort (n : Nat) : Except Reject Instr :=
  (laneBits 38 n).bind fun v =>
    if v.getLsbD 0 = true then
      .ok (.t5557CmdShort (v.getLsbD 1) (v.getLsbD 2) (v.extractLsb' 3 32) (rev3 (v.extractLsb' 35 3)))
    else .error .fixedBit

/-- A long command frame as a number whose bit `k` is `cmdbits[k]` (R90). -/
def decodeCmdLong (n : Nat) : Except Reject Instr :=
  (laneBits 70 n).bind fun v =>
    if v.getLsbD 0 = true then
      .ok (.t5557CmdLong (v.getLsbD 1) (v.extractLsb' 2 32).reverse (v.getLsbD 34) (v.extractLsb' 35 32)
        (rev3 (v.extractLsb' 67 3)))
    else .error .fixedBit

/-- A T5557 opcode (R91). DESIGN CHOICE: bit `k` of the number is `cmdbits[k]`, so 1 is `10` in air order, 3 is `11`,
and 2 is rejected; R91 gives the air order and numbers no bits (`notes/assumptions/2.md`). -/
def decodeOpcode (n : Nat) : Except Reject Instr :=
  match n with
  | 1 => .ok .t5557OpcodeWritePage0
  | 3 => .ok .t5557OpcodeWritePage1
  | _ => .error .opcode

/-- The reserved bits of a configuration word (R96): 27:21, 17, 8 and 2:1. -/
def configWordReserved : Word32 := 0x0FE20106

/-- A T5557 configuration word (R96). -/
def decodeConfigWord (n : Nat) : Except Reject Instr :=
  (laneBits 32 n).bind fun v =>
    if v &&& configWordReserved = 0 then
      match Modulation.ofCode (v.extractLsb' 12 5), PskSubcarrier.ofOrdinal (v.extractLsb' 10 2) with
      | some m, some k =>
        .ok (.t5557ConfigWord (v.extractLsb' 28 4) (DataRate.ofOrdinal (v.extractLsb' 18 3)) m k (v.getLsbD 9)
          (v.extractLsb' 5 3) (v.getLsbD 4) (v.getLsbD 3) (v.getLsbD 0))
      | _, _ => .error .unusedFieldCode
    else .error .fixedBit

/-- A data-rate code (R97). -/
def decodeDataRate (n : Nat) : Except Reject Instr :=
  match n with
  | 0 => .ok .dataRateRf8
  | 1 => .ok .dataRateRf16
  | 2 => .ok .dataRateRf32
  | 3 => .ok .dataRateRf40
  | 4 => .ok .dataRateRf50
  | 5 => .ok .dataRateRf64
  | 6 => .ok .dataRateRf100
  | 7 => .ok .dataRateRf128
  | _ => .error .laneTooWide

/-- A modulation code (R98): 9 to 15 and 17 to 31 are never produced. -/
def decodeModulation (n : Nat) : Except Reject Instr :=
  match n with
  | 0 => .ok .modulationDirect
  | 1 => .ok .modulationPsk1
  | 2 => .ok .modulationPsk2
  | 3 => .ok .modulationPsk3
  | 4 => .ok .modulationFsk1
  | 5 => .ok .modulationFsk2
  | 6 => .ok .modulationFsk1a
  | 7 => .ok .modulationFsk2a
  | 8 => .ok .modulationManchester
  | 16 => .ok .modulationBiphase
  | _ => .error .unusedFieldCode

/-- A PSK-subcarrier code (R99): 3 is never produced. -/
def decodePsk (n : Nat) : Except Reject Instr :=
  match n with
  | 0 => .ok .pskRf2
  | 1 => .ok .pskRf4
  | 2 => .ok .pskRf8
  | _ => .error .unusedFieldCode

/-- A train: one Sample word per lane, together of the form of rule R101. -/
def decodeTrain (c : Config) (lanes : List Nat) : Except Reject Instr :=
  (lanes.mapM (decodeSample c.read.durW)).bind fun samples =>
    if isTrain c.write samples then .ok (.train samples) else .error .notATrain

/-- A fault cause code (R251). -/
def decodeFaultCode (n : Nat) : Except Reject Instr :=
  match n with
  | 1 => .ok .faultcodeRowParity
  | 2 => .ok .faultcodeStopBit
  | 3 => .ok .faultcodeColumnParity
  | 4 => .ok .faultcodeTooManyPulses
  | 5 => .ok .faultcodeTooManySamples
  | 6 => .ok .faultcodeInvalidParameter
  | _ => .error .faultCode

/-- A control transfer (R233): command code, Index, Value; a part the table calls ignored is not looked at.
DESIGN CHOICE: a command code outside 0x00 to 0x0a, which the table does not list, is rejected
(`notes/assumptions/25.md`). -/
def decodeWire (code index value : Nat) : Except Reject Instr :=
  match code with
  | 0x00 => .ok .wireNop
  | 0x01 => .ok .wireGetVersion
  | 0x02 => .ok .wireReset
  | 0x03 => (laneBits 16 value).map .wireCoilEnable
  | 0x04 => .ok .wirePulseVectorRead
  | 0x05 => .ok .wirePulseVectorWrite
  | 0x06 => .ok .wireSampleVectorRead
  | 0x07 => .ok .wireSampleVectorWrite
  | 0x08 => .ok .wireGetBufferSize
  | 0x09 =>
    (laneBits 16 index).bind fun ix =>
      (laneBits 16 value).map fun t => .wireTransferStart (ix.extractLsb' 8 8) (ix.extractLsb' 0 8) t
  | 0x0a => (laneBits 16 index).map .wireTransferStatus
  | _ => .error .wireCommand

/-- A 16-bit Index with a flag set (R234): the row of the first flag that is set, in the table's order. DESIGN CHOICE:
the row is the flag alone, and the other bits of the Index are not looked at, since each row's mask is its own bit
(`notes/assumptions/24.md`); `TRANSFER_START` keeps them all. -/
def decodeWireFlag (n : Nat) : Except Reject Instr :=
  (laneBits 16 n).bind fun v =>
    if v.getLsbD 15 then .ok .wireFlagFirstOnStart
    else if v.getLsbD 14 then .ok .wireFlagStartOnEdge
    else if v.getLsbD 13 then .ok .wireFlagFallingEdge
    else if v.getLsbD 12 then .ok .wireFlagTxMode
    else .error .wireFlag

/-- A status byte (R235). -/
def decodeWireStatus (n : Nat) : Except Reject Instr :=
  match n with
  | 0 => .ok .wireStatusUnknown
  | 1 => .ok .wireStatusOk
  | 2 => .ok .wireStatusTimeout
  | 3 => .ok .wireStatusInProgress
  | _ => .error .wireStatus

/-- An RC byte (R236). -/
def decodeWireRc (n : Nat) : Except Reject Instr :=
  match n with
  | 0 => .ok .wireRcOk
  | 1 => .ok .wireRcInvalidCmd
  | 2 => .ok .wireRcBusy
  | 3 => .ok .wireRcInvalidVal
  | 4 => .ok .wireRcTimeout
  | _ => .error .wireRc

/-- The operand lanes of `EE.GENERATE`: customer ID, token. -/
def decodeGenerate (id token : Nat) : Except Reject Instr :=
  (laneBits 8 id).bind fun i => (laneBits 32 token).map fun t => .eeGenerate i t

/-- The operand lanes of `TE.ENCODE_BLOCK` (R110). -/
def decodeEncodeBlock (page block lock pws password dataWord : Nat) : Except Reject Instr :=
  (laneBool page).bind fun g =>
  (laneBits 3 block).bind fun b =>
  (laneBool lock).bind fun l =>
  (laneBool pws).bind fun p =>
  (laneBits 32 password).bind fun w =>
  (laneBits 32 dataWord).map fun d => .teEncodeBlock g b l p w d

/-- The operand lanes of a T5557Parameters record (R110). -/
def decodeParams (lock masterKey rate modulation psk aor maxBlock password st por : Nat) : Except Reject ParamsPort :=
  (laneBool lock).bind fun l =>
  (laneBits 4 masterKey).bind fun k =>
  (laneBits 3 rate).bind fun r =>
  (laneBits 4 modulation).bind fun m =>
  (laneBits 2 psk).bind fun q =>
  (laneBool aor).bind fun a =>
  (laneBits 3 maxBlock).bind fun b =>
  (laneBool password).bind fun p =>
  (laneBool st).bind fun t =>
  (laneBool por).map fun d =>
    { lock := l, masterKey := k, dataRate := r, modulation := m, pskSubcarrier := q, answerOnRequest := a,
      maxBlock := b, password := p, sequenceTerminator := t, powerOnResetDelay := d }

/-- The operand lanes of `TE.ENCODE_PARAMS` (R110). -/
def decodeEncodeParams (params : Except Reject ParamsPort) (pws password : Nat) : Except Reject Instr :=
  params.bind fun p => (laneBool pws).bind fun s => (laneBits 32 password).map fun w => .teEncodeParams p s w

/-- The decoder: total, and every word that is no instruction is rejected by name. -/
def decode (c : Config) (w : PortWord) : Except Reject Instr :=
  match w.port, w.lanes with
  | .sample, [n] => (decodeSample c.read.durW n).map fun s => .csSample s.level s.dur
  | .mdPulse, [n] => (decodePulse n).map fun p => .mdPulse p.level p.isLong
  | .mdSync, [n] => decodeSyncLost n .mdSyncLost .mdSyncAcquired
  | .bdPulse, [n] => (decodePulse n).map fun p => .bdPulse p.level p.isLong
  | .bdSync, [n] => decodeSyncLost n .bdSyncLost .bdSyncAcquired
  | .bit, [n] => (laneBool n).map .tdBit
  | .generate, [id, token] => decodeGenerate id token
  | .encodeBlock, [g, b, l, p, pw, d] => decodeEncodeBlock g b l p pw d
  | .encodeParams, [l, k, r, m, q, a, b, p, t, d, pws, pw] =>
    decodeEncodeParams (decodeParams l k r m q a b p t d) pws pw
  | .reset, [] => .ok .reset
  | .sync, [n] => decodeSync n
  | .token, [n] => decodeToken n
  | .framingFault, [n] => decodeFramingFault n
  | .frame, [n] => decodeFrame n
  | .epromW0, [n] => decodeEpromW0 n
  | .epromW1, [n] => decodeEpromW1 n
  | .cmdShort, [n] => decodeCmdShort n
  | .cmdLong, [n] => decodeCmdLong n
  | .opcode, [n] => decodeOpcode n
  | .configWord, [n] => decodeConfigWord n
  | .dataRate, [n] => decodeDataRate n
  | .modulation, [n] => decodeModulation n
  | .psk, [n] => decodePsk n
  | .train, lanes => decodeTrain c lanes
  | .faultCode, [n] => decodeFaultCode n
  | .wireCommand, [code, index, value] => decodeWire code index value
  | .wireFlag, [n] => decodeWireFlag n
  | .wireStatus, [n] => decodeWireStatus n
  | .wireRc, [n] => decodeWireRc n
  | _, _ => .error .laneCount

/-! ## Encoding -/

/-- A Sample word (R107). -/
def encodeSample (durW : Nat) (s : Sample) : Nat := boolLane s.level.bit * 2 ^ durW + s.dur

/-- A PulseEvent word (R107). -/
def encodePulse (level : Level) (isLong : Bool) : Nat := (BitVec.ofBool level.bit ++ BitVec.ofBool isLong).toNat

/-- A SyncAcquired word (R107): 1, then the divider code. -/
def encodeAcquired (d : Divider) : Nat := ((1 : BitVec 1) ++ d.code).toNat

/-- A FramingFault word (R107). -/
def encodeFramingFault (k : FramingKind) (nibIdx : BitVec 4) : Nat := (BitVec.ofNat 2 k.code ++ nibIdx).toNat

/-- The operand lanes of a T5557Parameters record. -/
def encodeParams (p : ParamsPort) : List Nat :=
  [boolLane p.lock, p.masterKey.toNat, p.dataRate.toNat, p.modulation.toNat, p.pskSubcarrier.toNat,
   boolLane p.answerOnRequest, p.maxBlock.toNat, boolLane p.password, boolLane p.sequenceTerminator,
   boolLane p.powerOnResetDelay]

/-- A control transfer's lanes (R233). -/
def encodeWire (code : Byte) (index value : BitVec 16) : List Nat := [code.toNat, index.toNat, value.toNat]

/-- The port word of an instruction, from the same rules as the decoder. -/
def encode (c : Config) : Instr → PortWord
  | .csSample level dur => ⟨.sample, [encodeSample c.read.durW { dur := dur, level := level }]⟩
  | .mdPulse level isLong => ⟨.mdPulse, [encodePulse level isLong]⟩
  | .mdSyncLost => ⟨.mdSync, [0]⟩
  | .bdPulse level isLong => ⟨.bdPulse, [encodePulse level isLong]⟩
  | .bdSyncLost => ⟨.bdSync, [0]⟩
  | .tdBit value => ⟨.bit, [boolLane value]⟩
  | .eeGenerate id token => ⟨.generate, [id.toNat, token.toNat]⟩
  | .teEncodeBlock page block lock pws password dataWord =>
    ⟨.encodeBlock, [boolLane page, block.toNat, boolLane lock, boolLane pws, password.toNat, dataWord.toNat]⟩
  | .teEncodeParams params pws password => ⟨.encodeParams, encodeParams params ++ [boolLane pws, password.toNat]⟩
  | .reset => ⟨.reset, []⟩
  | .syncAcq16 => ⟨.sync, [encodeAcquired .d16]⟩
  | .syncAcq32 => ⟨.sync, [encodeAcquired .d32]⟩
  | .syncAcq64 => ⟨.sync, [encodeAcquired .d64]⟩
  | .syncLost => ⟨.sync, [0]⟩
  | .token id data => ⟨.token, [(id ++ data).toNat]⟩
  | .faultRow nibIdx => ⟨.framingFault, [encodeFramingFault .rowParity nibIdx]⟩
  | .faultStop => ⟨.framingFault, [encodeFramingFault .stopBit 10]⟩
  | .faultCol => ⟨.framingFault, [encodeFramingFault .columnParity 10]⟩
  | .em4100Frame id token rows column => ⟨.frame, [(frameWord id token rows column).toNat]⟩
  | .epromW0 e p3 d p2 c' p1 b p0 a => ⟨.epromW0, [(epromW0Word e p3 d p2 c' p1 b p0 a).toNat]⟩
  | .epromW1 q p9 n9 p8 n8 p7 n7 p6 n6 p5 n5 p4 e =>
    ⟨.epromW1, [(epromW1Word q p9 n9 p8 n8 p7 n7 p6 n6 p5 n5 p4 e).toNat]⟩
  | .t5557CmdShort page lock dataWord block => ⟨.cmdShort, [(cmdShortWord page lock dataWord block).toNat]⟩
  | .t5557CmdLong page password lock dataWord block =>
    ⟨.cmdLong, [(cmdLongWord page password lock dataWord block).toNat]⟩
  | .t5557OpcodeWritePage0 => ⟨.opcode, [1]⟩
  | .t5557OpcodeWritePage1 => ⟨.opcode, [3]⟩
  | .t5557ConfigWord k r m q a b p t d => ⟨.configWord, [(configWord k r m q a b p t d).toNat]⟩
  | .dataRateRf8 => ⟨.dataRate, [DataRate.rf8.code.toNat]⟩
  | .dataRateRf16 => ⟨.dataRate, [DataRate.rf16.code.toNat]⟩
  | .dataRateRf32 => ⟨.dataRate, [DataRate.rf32.code.toNat]⟩
  | .dataRateRf40 => ⟨.dataRate, [DataRate.rf40.code.toNat]⟩
  | .dataRateRf50 => ⟨.dataRate, [DataRate.rf50.code.toNat]⟩
  | .dataRateRf64 => ⟨.dataRate, [DataRate.rf64.code.toNat]⟩
  | .dataRateRf100 => ⟨.dataRate, [DataRate.rf100.code.toNat]⟩
  | .dataRateRf128 => ⟨.dataRate, [DataRate.rf128.code.toNat]⟩
  | .modulationDirect => ⟨.modulation, [Modulation.direct.code.toNat]⟩
  | .modulationPsk1 => ⟨.modulation, [Modulation.psk1.code.toNat]⟩
  | .modulationPsk2 => ⟨.modulation, [Modulation.psk2.code.toNat]⟩
  | .modulationPsk3 => ⟨.modulation, [Modulation.psk3.code.toNat]⟩
  | .modulationFsk1 => ⟨.modulation, [Modulation.fsk1.code.toNat]⟩
  | .modulationFsk2 => ⟨.modulation, [Modulation.fsk2.code.toNat]⟩
  | .modulationFsk1a => ⟨.modulation, [Modulation.fsk1a.code.toNat]⟩
  | .modulationFsk2a => ⟨.modulation, [Modulation.fsk2a.code.toNat]⟩
  | .modulationManchester => ⟨.modulation, [Modulation.manchester.code.toNat]⟩
  | .modulationBiphase => ⟨.modulation, [Modulation.biphase.code.toNat]⟩
  | .pskRf2 => ⟨.psk, [PskSubcarrier.rf2.code.toNat]⟩
  | .pskRf4 => ⟨.psk, [PskSubcarrier.rf4.code.toNat]⟩
  | .pskRf8 => ⟨.psk, [PskSubcarrier.rf8.code.toNat]⟩
  | .train samples => ⟨.train, samples.map (encodeSample c.read.durW)⟩
  | .faultcodeRowParity => ⟨.faultCode, [1]⟩
  | .faultcodeStopBit => ⟨.faultCode, [2]⟩
  | .faultcodeColumnParity => ⟨.faultCode, [3]⟩
  | .faultcodeTooManyPulses => ⟨.faultCode, [4]⟩
  | .faultcodeTooManySamples => ⟨.faultCode, [5]⟩
  | .faultcodeInvalidParameter => ⟨.faultCode, [6]⟩
  | .wireNop => ⟨.wireCommand, encodeWire 0x00 0 0⟩
  | .wireGetVersion => ⟨.wireCommand, encodeWire 0x01 0 0⟩
  | .wireReset => ⟨.wireCommand, encodeWire 0x02 0 0⟩
  | .wireCoilEnable value => ⟨.wireCommand, encodeWire 0x03 0 value⟩
  | .wirePulseVectorRead => ⟨.wireCommand, encodeWire 0x04 0 0⟩
  | .wirePulseVectorWrite => ⟨.wireCommand, encodeWire 0x05 0 0⟩
  | .wireSampleVectorRead => ⟨.wireCommand, encodeWire 0x06 0 0⟩
  | .wireSampleVectorWrite => ⟨.wireCommand, encodeWire 0x07 0 0⟩
  | .wireGetBufferSize => ⟨.wireCommand, encodeWire 0x08 0 0⟩
  | .wireTransferStart flags prescaler timeout => ⟨.wireCommand, encodeWire 0x09 (flags ++ prescaler) timeout⟩
  | .wireTransferStatus index => ⟨.wireCommand, encodeWire 0x0a index 0⟩
  | .wireFlagFirstOnStart => ⟨.wireFlag, [WireFlag.firstOnStart.mask.toNat]⟩
  | .wireFlagStartOnEdge => ⟨.wireFlag, [WireFlag.startOnEdge.mask.toNat]⟩
  | .wireFlagFallingEdge => ⟨.wireFlag, [WireFlag.fallingEdge.mask.toNat]⟩
  | .wireFlagTxMode => ⟨.wireFlag, [WireFlag.txMode.mask.toNat]⟩
  | .wireStatusUnknown => ⟨.wireStatus, [WireStatus.unknown.code.toNat]⟩
  | .wireStatusOk => ⟨.wireStatus, [WireStatus.ok.code.toNat]⟩
  | .wireStatusTimeout => ⟨.wireStatus, [WireStatus.timeout.code.toNat]⟩
  | .wireStatusInProgress => ⟨.wireStatus, [WireStatus.inProgress.code.toNat]⟩
  | .wireRcOk => ⟨.wireRc, [WireRc.ok.code.toNat]⟩
  | .wireRcInvalidCmd => ⟨.wireRc, [WireRc.invalidCmd.code.toNat]⟩
  | .wireRcBusy => ⟨.wireRc, [WireRc.busy.code.toNat]⟩
  | .wireRcInvalidVal => ⟨.wireRc, [WireRc.invalidVal.code.toNat]⟩
  | .wireRcTimeout => ⟨.wireRc, [WireRc.timeout.code.toNat]⟩

/-! ## The bits of a table row -/

/-- The ports whose words fill `nbits` bits in whole bytes, the one with the most fixed bits first. Rows of
equal width that differ only by their port cannot be told apart by their bits: the earlier port answers
(`notes/assumptions/3.md`). -/
def tablePorts (nbits : Nat) : List Port :=
  match nbits with
  | 8 => [.wireCommand, .framingFault, .faultCode, .wireStatus, .wireRc, .modulation, .dataRate, .psk, .sync, .opcode,
      .mdPulse, .mdSync, .bdPulse, .bdSync, .bit]
  | 16 => [.wireFlag]
  | 24 => [.sample]
  | 32 => [.epromW0, .configWord, .epromW1]
  | 40 => [.cmdShort, .token]
  | 64 => [.frame]
  | 72 => [.cmdLong]
  | _ => []

/-- A number of `w` bits with its bits in the opposite order. -/
def reversedLane (w n : Nat) : List Nat := if n < 2 ^ w then [(BitVec.ofNat w n).reverse.toNat] else []

/-- The port words that a table row's bits may stand for on a port: one lane, and for a wire command an Index and a
Value of zeros. The table writes frames in air order, which numbers no bits: the first bit on the air is bit 0 (R87),
and where that is no frame it is the top bit. -/
def tableWords (n : Nat) (p : Port) : List PortWord :=
  match p with
  | .wireCommand => [⟨.wireCommand, [n, 0, 0]⟩]
  | .frame => ⟨.frame, [n]⟩ :: (reversedLane 64 n).map (fun m => ⟨.frame, [m]⟩)
  | .cmdShort => ⟨.cmdShort, [n]⟩ :: (reversedLane 38 n).map (fun m => ⟨.cmdShort, [m]⟩)
  | .cmdLong => ⟨.cmdLong, [n]⟩ :: (reversedLane 70 n).map (fun m => ⟨.cmdLong, [m]⟩)
  | p => [⟨p, [n]⟩]

/-- The first of the port words that decodes; if none does, a word that is rejected. -/
def tablePortWord (c : Config) (nbits n : Nat) : PortWord :=
  (((tablePorts nbits).flatMap (tableWords n)).find? (fun pw => (decode c pw).isOk)).getD ⟨.wireCommand, []⟩

/-- The instruction the decoder reads from a table row of `nbits` bits, under the default configuration. -/
def decodeTableWord (nbits w : Nat) : Option Instr := (decode Config.default (tablePortWord Config.default nbits w)).toOption

end Sys2Proof
end

