-- ==== Sys2Proof/Machine/State.lean ====
section
/-! DEFINITION. The state of CORE: Carrier Synchronizer, line decoder, Token Decoder (R20 to R36), the
sampled configuration (R39, R281), and beside it the model's own fields: the inputs not yet consumed, the
record of what appeared on the ports, the reader's coil, a counter for free values. -/

namespace Sys2Proof.Machine

/-- The Carrier Synchronizer's state (R21 to R27). -/
structure CSState where
  /-- R21 -/
  divider : Divider
  /-- R22 -/
  hasSync : Bool
  /-- R23: at every step boundary `windows(divider)` -/
  shortRange : Range
  /-- R23 -/
  longRange : Range
  /-- R24 -/
  pulseCount : Nat
  /-- R25 -/
  errorCount : Nat
  /-- R26 -/
  hiCount : Nat
  /-- R27 -/
  loCount : Nat
deriving DecidableEq, Repr

/-- The Manchester decoder's state (R28, R29). -/
structure MDState where
  lastOutput : Level
  timerRunning : Bool
deriving DecidableEq, Repr

/-- The Biphase decoder's state (R30). -/
structure BDState where
  lastWasShort : Bool
deriving DecidableEq, Repr

/-- The line decoder: exactly one of MD or BD exists in a configured CORE, and the other's state does not
exist (`10_state.md` section 3, R151). -/
inductive LineState where
  | manchester (md : MDState)
  | biphase (bd : BDState)
deriving DecidableEq, Repr

/-- The two modes of TD (R31). -/
inductive TDMode where
  | preamble
  | data
deriving DecidableEq, Repr

/-- The assembled six-byte frame `TD.frame[0..5]` (R36). -/
structure Frame where
  b0 : Byte
  b1 : Byte
  b2 : Byte
  b3 : Byte
  b4 : Byte
  b5 : Byte
deriving DecidableEq, Repr

/-- The Token Decoder's state (R31 to R36). -/
structure TDState where
  /-- R31 -/
  mode : TDMode
  /-- R32 -/
  onesCount : Nat
  /-- R33 -/
  nibBuf : Nibble
  /-- R34 -/
  fill : Nat
  /-- R35 -/
  nibIdx : Nat
  /-- R36 -/
  frame : Frame
deriving DecidableEq, Repr

/-- What appears on a port of CORE, of one of its stages, or of its boundary, in the order in which it
appears. The record is the model's (R42: an observer "must accumulate the fault-log output itself"). -/
inductive Event where
  /-- CS emits a PulseEvent (R81) -/
  | pulse (p : PulseEvent)
  /-- the line decoder emits a BitEvent (R82) -/
  | bit (value : Bool)
  /-- `SyncAcquired(divider)` (R83) -/
  | acquired (divider : Divider)
  /-- `SyncLost` (R83) -/
  | lost
  /-- a Token (R84) -/
  | token (id : Byte) (data : Word32)
  /-- `FramingFault(kind, nibIdx)` on the fault log (R85, R252) -/
  | framingFault (kind : FramingKind) (nibIdx : Nat)
  /-- an EPROM word `W0` (R87) -/
  | epromW0 (word : Word32)
  /-- an EPROM word `W1` (R87) -/
  | epromW1 (word : Word32)
  /-- a pulse train handed to the sample sink (R205) -/
  | train (samples : List Sample)
  /-- a TE command answers with a fault and no train (R254, R256) -/
  | commandFault (fault : CommandFault)
  /-- a T5557 opcode, in air order (R91) -/
  | opcode (bits : List Bool)
  /-- a T5557 configuration word (R96) -/
  | configWord (word : Word32)
  /-- a data-rate code (R97) -/
  | rateCode (code : BitVec 3)
  /-- a modulation code (R98) -/
  | modulationCode (code : BitVec 5)
  /-- a PSK-subcarrier code (R99) -/
  | pskCode (code : BitVec 2)
  /-- a fault cause code (R251) -/
  | faultCode (code : Nat)
  /-- a control transfer to the reader device and its response (R233) -/
  | wire (command : Byte) (index value : BitVec 16) (response : List Byte)
  /-- a flag mask of the Index (R234) -/
  | wireFlag (mask : BitVec 16)
  /-- a status byte (R235) -/
  | wireStatus (code : Byte)
  /-- an RC byte (R236) -/
  | wireRc (code : Byte)
deriving DecidableEq, Repr

/-- The whole machine. -/
structure State where
  /-- the configuration inputs of CORE as the host drives them (R8, R39) -/
  cfg : Config
  /-- the read-path configuration as the last `RESET` sampled it (R39, R281) -/
  latched : ReadConfig
  /-- the Carrier Synchronizer -/
  cs : CSState
  /-- the configured line decoder -/
  line : LineState
  /-- the Token Decoder -/
  td : TDState
  /-- the model's own: the port transactions the host has presented and CORE has not consumed, first first -/
  inbox : List PortWord
  /-- the model's own: what has appeared on the ports, oldest first -/
  trace : List Event
  /-- the reader device's field switch (R233 COIL_ENABLE, R269), outside CORE -/
  coil : Bool
  /-- the model's own: how many free values have been drawn -/
  draws : Nat
deriving DecidableEq, Repr

/-- Why the machine stops with a fault: it never does. Every fault of CORE is a logged event or a command
result after which the next input is processed (R251, R254, R259, R260), so the type has no constructor. -/
inductive Fault where
deriving DecidableEq, Repr

/-- Why a transaction has no meaning in the model. -/
inductive Refusal where
  /-- raised by no arm: every instruction has its meaning. Safe. -/
  | notModelled (mnemonic : String)
  /-- raised by a read-path transaction when a read-path configuration input differs from what `RESET` sampled, and
  by a command that builds or checks a train when `DUR_W` does; the spec: "outside the specified behaviour: treat as refuse" (R285). Safe. -/
  | configurationChanged
  /-- raised by an operation of the line decoder that the configured CORE does not have; the spec: "the
  other's state does not exist" (`10_state.md` section 3, R151). Safe. -/
  | decoderAbsent
  /-- raised by a Sample whose duration does not fit `DUR_W` bits; the spec: "refuse: cannot be presented on
  the port" (`93_implementation_defined.md` section 1, R80). Safe. -/
  | sampleTooWide
  /-- raised by a write-path command when a duration parameter does not fit `DUR_W` bits; the spec: "a
  configuration error, refused at configuration" (R296). Safe. -/
  | durationTooWide
  /-- raised by `coreStep` alone, never by `exec` or `step`: the transaction is none of CORE's three kinds of step
  (R13) but a part of one or an item of the boundary. Safe. -/
  | partOfAStep
  /-- raised by `step` for a port word that is no instruction of the table and to which the spec gives no effect, with
  the decoder's reason (`NOTES.md`, Stops, names the rule of each). Safe. -/
  | undecodable (reason : Reject)
deriving DecidableEq, Repr

/-- The configuration as transactions see it: the read path's as `RESET` sampled it (R39, R72, R285), the write path's
as the host drives it (R224). -/
def State.config (s : State) : Config := { s.cfg with read := s.latched }

/-- The answer of a step. -/
abbrev Answer := Host.Outcome State Fault Refusal

/-- CS after `RESET` with `INIT_DIVIDER = d` (R45, R281). -/
def CSState.reset (d : Divider) : CSState where
  divider := d
  hasSync := false
  shortRange := d.shortRange
  longRange := d.longRange
  pulseCount := 0
  errorCount := 0
  hiCount := 0
  loCount := 0

/-- The configured line decoder after `RESET` (R45, R281). -/
def LineState.reset (c : ReadConfig) : LineState :=
  match c.lineCode with
  | .manchester => .manchester { lastOutput := c.mdResetOutput, timerRunning := false }
  | .biphase => .biphase { lastWasShort := false }

/-- The frame of six zero bytes. -/
def Frame.zero : Frame := { b0 := 0, b1 := 0, b2 := 0, b3 := 0, b4 := 0, b5 := 0 }

/-- `TD.clear()` in the mode given (R179): every field but the mode is zero. -/
def TDState.cleared (mode : TDMode) : TDState where
  mode := mode
  onesCount := 0
  nibBuf := 0
  fill := 0
  nibIdx := 0
  frame := Frame.zero

/-- TD after `RESET` (R45): `Preamble`, everything zero. -/
def TDState.reset : TDState := TDState.cleared .preamble

/-- The machine right after reset (R45, R282), with the default parameters of rule R8; no input is waiting
and nothing has appeared. The model's own values are `notes/assumptions/5.md` and `10.md`. -/
def State.reset : State where
  cfg := Config.default
  latched := Config.default.read
  cs := CSState.reset Config.default.read.initDivider
  line := LineState.reset Config.default.read
  td := TDState.reset
  inbox := []
  trace := []
  coil := false
  draws := 0

end Sys2Proof.Machine
end

