-- ==== Sys2Proof/Machine/Flags.lean ====
section
/-! DEFINITION. The conditions that CS and TD test: lost lock, acquisition, window boundary (R127, R129,
R130), and the three frame checks (R173, R174, R176). -/

namespace Sys2Proof.Machine

/-- Lost lock: `errorCount >= 10` (R127). -/
def CSState.lockLost (c : CSState) : Bool := decide (10 ≤ c.errorCount)

/-- Acquisition: `hiCount > 4`, `loCount > 4`, `errorCount < 4`, while unsynchronized (R129). -/
def CSState.acquires (c : CSState) : Bool :=
  !c.hasSync && decide (4 < c.hiCount) && decide (4 < c.loCount) && decide (c.errorCount < 4)

/-- Window boundary: `pulseCount >= 50` (R130). -/
def CSState.windowEnds (c : CSState) : Bool := decide (50 ≤ c.pulseCount)

/-- The fifth bit of a group 0 to 9 differs from the even parity of the nibble (R173). -/
def TDState.rowParityFails (t : TDState) (b : Bool) : Bool := decide (t.nibIdx ≤ 9) && (b != parity4 t.nibBuf)

/-- The fifth bit of group 10 is not 0 (R174). -/
def TDState.stopBitFails (t : TDState) (b : Bool) : Bool := decide (t.nibIdx = 10) && b

/-- The column parity computed from bytes 0 to 4 (R176): the ten nibbles' XOR in the high nibble. -/
def Frame.column (f : Frame) : Byte :=
  foldByte f.b0 ^^^ foldByte f.b1 ^^^ foldByte f.b2 ^^^ foldByte f.b3 ^^^ foldByte f.b4

/-- Column parity holds when it equals byte 5 exactly (R176). -/
def Frame.columnHolds (f : Frame) : Bool := f.column == f.b5

end Sys2Proof.Machine
end

