-- ==== Sys2Proof/Machine/Ops.lean ====
section
/-! DEFINITION. The named operations over the state, each stage's operation once, and how they call each
other: an emission runs the next stage to completion before the emitter goes on (R11, R67). Taking a
framing fault and raising a command fault are one shared operation each (R252, R254); CORE has no return
from a fault (R260). -/

namespace Sys2Proof.Machine

/-! ## The ports -/

/-- Something appears on a port: it is recorded and changes nothing else. -/
def emit (e : Event) (s : State) : State := { s with trace := s.trace ++ [e] }

/-! ## Token Decoder -/

/-- Write of a nibble into byte `k`, high half or low half (R175); no byte past 5 exists. -/
def Frame.putNibble (f : Frame) (k : Nat) (high : Bool) (n : Nibble) : Frame :=
  let put : Byte → Byte := fun b =>
    if high then (n.setWidth 8 <<< 4) ||| (b &&& 0x0F) else (b &&& 0xF0) ||| n.setWidth 8
  match k with
  | 0 => { f with b0 := put f.b0 }
  | 1 => { f with b1 := put f.b1 }
  | 2 => { f with b2 := put f.b2 }
  | 3 => { f with b3 := put f.b3 }
  | 4 => { f with b4 := put f.b4 }
  | 5 => { f with b5 := put f.b5 }
  | _ => f

/-- `TD.mode <- Preamble; TD.clear()` (R178). -/
def tdToPreamble (s : State) : State := { s with td := TDState.reset }

/-- A framing fault: logged with its kind and group, TD back in `Preamble`, the frame discarded; nothing is
saved and no control is transferred (R178, R252, R259). -/
def takeFramingFault (kind : FramingKind) (nibIdx : Nat) (s : State) : State :=
  tdToPreamble (emit (.framingFault kind nibIdx) s)

/-- The Token of the assembled frame (R177): byte 0, then bytes 1 to 4 big-endian. -/
def emitToken (f : Frame) (s : State) : State := emit (.token f.b0 (f.b1 ++ f.b2 ++ f.b3 ++ f.b4)) s

/-- A bit in `Preamble` mode (R171). -/
def tdPreambleBit (b : Bool) (s : State) : State :=
  if b then
    if s.td.onesCount + 1 = 9 then { s with td := TDState.cleared .data }
    else { s with td := { s.td with onesCount := s.td.onesCount + 1 } }
  else { s with td := { s.td with onesCount := 0 } }

/-- One of the four data bits of a group (R172): shifted in at bit 0. -/
def tdDataBit (b : Bool) (s : State) : State :=
  { s with td := { s.td with
      nibBuf := s.td.nibBuf <<< 1 ||| (BitVec.ofBool b).setWidth 4
      fill := s.td.fill + 1 } }

/-- An accepted group is packed and the nibble counter advances (R175). -/
def tdPack (s : State) : State :=
  { s with td := { s.td with
      frame := s.td.frame.putNibble (s.td.nibIdx / 2) (s.td.nibIdx % 2 == 0) s.td.nibBuf
      nibIdx := s.td.nibIdx + 1
      nibBuf := 0
      fill := 0 } }

/-- After group 10: the Token, or a column-parity fault; both return to `Preamble` (R176, R177). -/
def tdFinish (s : State) : State :=
  if s.td.frame.columnHolds then tdToPreamble (emitToken s.td.frame s)
  else takeFramingFault .columnParity 10 s

/-- The fifth bit of a group (R173 to R177). -/
def tdFifthBit (b : Bool) (s : State) : State :=
  if s.td.rowParityFails b then takeFramingFault .rowParity s.td.nibIdx s
  else if s.td.stopBitFails b then takeFramingFault .stopBit 10 s
  else if s.td.nibIdx + 1 = 11 then tdFinish (tdPack s)
  else tdPack s

/-- `TD.BIT` (R179). -/
def tdBit (b : Bool) (s : State) : State :=
  match s.td.mode with
  | .preamble => tdPreambleBit b s
  | .data => if s.td.fill < 4 then tdDataBit b s else tdFifthBit b s

/-- TD consumes bits in air order, one after the other (R67). -/
def tdBits (bits : List Bool) (s : State) : State := bits.foldl (fun s b => tdBit b s) s

/-! ## Line decoders -/

/-- The line decoder emits a BitEvent and TD consumes it at once (R11, R82). -/
def deliverBit (b : Bool) (s : State) : State := tdBit b (emit (.bit b) s)

/-- `MD.PULSE` (R152, R153) on the decoder state given. -/
def mdPulse (md : MDState) (p : PulseEvent) (s : State) : State :=
  if md.timerRunning then
    deliverBit p.level.bit { s with line := .manchester { lastOutput := p.level, timerRunning := false } }
  else if p.level ≠ md.lastOutput then
    if p.isLong then
      deliverBit p.level.bit { s with line := .manchester { md with lastOutput := p.level } }
    else { s with line := .manchester { md with timerRunning := true } }
  else s

/-- `BD.PULSE` (R157) on the decoder state given; the level is not used (R159). -/
def bdPulse (bd : BDState) (p : PulseEvent) (s : State) : State :=
  if p.isLong then deliverBit true { s with line := .biphase { lastWasShort := false } }
  else if bd.lastWasShort then deliverBit false { s with line := .biphase { lastWasShort := false } }
  else { s with line := .biphase { lastWasShort := true } }

/-- The configured decoder, and no other, consumes a PulseEvent (R151). -/
def linePulse (p : PulseEvent) (s : State) : State :=
  match s.line with
  | .manchester md => mdPulse md p s
  | .biphase bd => bdPulse bd p s

/-- `MD.SYNCLOST` (R155). -/
def mdSyncLost (s : State) : State :=
  { s with line := .manchester { lastOutput := s.latched.mdResetOutput, timerRunning := false } }

/-- `BD.SYNCLOST` (R158). -/
def bdSyncLost (s : State) : State := { s with line := .biphase { lastWasShort := false } }

/-- The configured decoder consumes a SyncLost (R150, R151). -/
def lineSyncLost (s : State) : State :=
  match s.line with
  | .manchester _ => mdSyncLost s
  | .biphase _ => bdSyncLost s

/-! ## Carrier Synchronizer -/

/-- CS emits a PulseEvent; the line decoder, and through it TD, run to completion (R67, R125). -/
def deliverPulse (p : PulseEvent) (s : State) : State := linePulse p (emit (.pulse p) s)

/-- SyncLost goes to the CORE output and to the line decoder; it does not reach TD (R69, R83, R180). -/
def deliverSyncLost (s : State) : State := lineSyncLost (emit .lost s)

/-- SyncAcquired goes to the CORE output; no stage reacts to it (R162). -/
def deliverSyncAcquired (d : Divider) (s : State) : State := emit (.acquired d) s

/-- The four window counters at zero. -/
def CSState.clearCounters (c : CSState) : CSState :=
  { c with pulseCount := 0, errorCount := 0, hiCount := 0, loCount := 0 }

/-- Divider rotation with its windows (R128). -/
def CSState.rotate (c : CSState) : CSState :=
  { c with divider := c.divider.next, shortRange := c.divider.next.shortRange, longRange := c.divider.next.longRange }

/-- The counting of one Sample (R123 to R125): what CS holds after it. -/
def CSState.count (c : CSState) (level : Level) (k : PulseClass) : CSState :=
  let c := { c with pulseCount := c.pulseCount + 1 }
  match k with
  | .none => { c with errorCount := c.errorCount + 1 }
  | _ =>
    if c.hasSync then c
    else match level with
      | .high => { c with hiCount := c.hiCount + 1 }
      | .low => { c with loCount := c.loCount + 1 }

/-- The PulseEvent of one Sample, emitted while synchronized on a match only (R125). -/
def csForward (level : Level) (k : PulseClass) (s : State) : State :=
  if s.cs.hasSync then
    match k with
    | .none => s
    | .short => deliverPulse { level := level, isLong := false } s
    | .long => deliverPulse { level := level, isLong := true } s
  else s

/-- Lost lock (R127): counters cleared, `hasSync` false, SyncLost, rotation, in this order. -/
def csLoseLock (s : State) : State :=
  let s := deliverSyncLost { s with cs := { s.cs.clearCounters with hasSync := false } }
  { s with cs := s.cs.rotate }

/-- Acquisition (R129). -/
def csAcquire (s : State) : State :=
  if s.cs.acquires then deliverSyncAcquired s.cs.divider { s with cs := { s.cs with hasSync := true } } else s

/-- Window boundary (R130). -/
def csBoundary (s : State) : State :=
  if s.cs.windowEnds then { s with cs := s.cs.clearCounters } else s

/-- The checks after the counting, in the order of rule R126. -/
def csChecks (s : State) : State := if s.cs.lockLost then csLoseLock s else csBoundary (csAcquire s)

/-- `CS.SAMPLE` (R131). -/
def csSample (smp : Sample) (s : State) : State :=
  let k := classify s.cs.shortRange s.cs.longRange smp.dur
  csChecks (csForward smp.level k { s with cs := s.cs.count smp.level k })

/-! ## Reset -/

/-- `RESET` (R281): the configuration is sampled, every element of CS, of the configured decoder and of TD
takes its reset value; nothing is emitted. -/
def resetCore (s : State) : State :=
  { s with
    latched := s.cfg.read
    cs := CSState.reset s.cfg.read.initDivider
    line := LineState.reset s.cfg.read
    td := TDState.reset }

/-! ## Tag-Programming Encoder -/

/-- A TE command's result is a fault and no train; no state changes (R254, R256, R259). -/
def raiseCommandFault (f : CommandFault) (s : State) : State := emit (.commandFault f) s

/-- A finished train is checked against the device's capacities and handed to the sink, or the command
answers with a capacity fault (R205, R217). -/
def finishTrain (train : List Sample) (s : State) : State :=
  match capacityFault s.cfg.write train with
  | some f => raiseCommandFault f s
  | none => emit (.train train) s

/-- The train of a command frame, built and finished (R213, R222). -/
def sendCommand (cmdbits : List Bool) (s : State) : State := finishTrain (trainOf s.cfg.write cmdbits) s

/-! ## The reader device -/

/-- `n` response bytes whose content the spec does not give. -/
def freeBytes (from_ n : Nat) : List Byte := (List.range n).map (fun k => Config.freeByte (from_ + k))

/-- A control transfer whose response opens with an RC byte (R233, R236), `rest` following it. -/
def wireAnswer (command : Byte) (index value : BitVec 16) (rest : List Byte) (s : State) : State :=
  { emit (.wire command index value ((Config.freeRc s.draws).code :: rest)) s with draws := s.draws + 1 + rest.length }

/-- A control transfer whose response's length and content the spec does not give (R233, N16, N18). -/
def wireBulk (command : Byte) (index value : BitVec 16) (s : State) : State :=
  { emit (.wire command index value (Config.freeBulk s.draws)) s with draws := s.draws + 1 }

/-- The reader's coil after a COIL_ENABLE: 1 on, 0 off (DEDUCED), and free for a Value of which the table says nothing
(R233 gives 0 and 1; DESIGN CHOICE, `notes/assumptions/16.md`). -/
def coilAfter (value : BitVec 16) (draw : Nat) : Bool :=
  if value = 0 then false else if value = 1 then true else Config.freeCoil draw

/-! ## Guards -/

/-- A read-path transaction runs under the configuration that `RESET` sampled (R285). -/
def whenConfigured (s : State) (k : State → State) : Answer :=
  if s.cfg.read = s.latched then .next (k s) else .refused .configurationChanged

/-- An operation of MD: it exists only in a CORE configured for Manchester (R151). -/
def whenManchester (s : State) (k : MDState → State → State) : Answer :=
  match s.line with
  | .manchester md => whenConfigured s (k md)
  | .biphase _ => .refused .decoderAbsent

/-- An operation of BD: it exists only in a CORE configured for Biphase (R151). -/
def whenBiphase (s : State) (k : BDState → State → State) : Answer :=
  match s.line with
  | .biphase bd => whenConfigured s (k bd)
  | .manchester _ => .refused .decoderAbsent

/-- A command that builds or checks a train runs under the `DUR_W` that `RESET` sampled (R39, R285), with durations
that fit it (R296). The other read-path inputs do not concern the write path (R74). -/
def whenDurationsFit (s : State) (k : State → State) : Answer :=
  if s.cfg.read.durW = s.latched.durW then
    if durationsFit s.cfg then .next (k s) else .refused .durationTooWide
  else .refused .configurationChanged

/-! ## Port words that are no row of the table -/

/-- A port word that the decoder has rejected. A SyncAcquired at a line decoder's sync input is consumed without
effect (R69, R162); any other is refused with the decoder's reason. -/
def takeUnlisted (r : Reject) (s : State) : Answer :=
  match r with
  | .mdSyncAcquired => whenManchester s (fun _ s => s)
  | .bdSyncAcquired => whenBiphase s (fun _ s => s)
  | r => .refused (.undecodable r)

end Sys2Proof.Machine
end

