-- ==== Sys2Proof/Machine/CarrierSync.lean ====
section
/-! DEFINITION. The meaning of `CS.SAMPLE`. -/

namespace Sys2Proof.Machine

/-- `CS.SAMPLE` (R131), with everything it causes downstream (R13, R67). A duration wider than `DUR_W` bits
cannot be presented on the port (R80). -/
def execCsSample (level : Level) (dur : Nat) (s : State) : Answer :=
  if dur < 2 ^ s.latched.durW then whenConfigured s (csSample { dur := dur, level := level })
  else .refused .sampleTooWide

end Sys2Proof.Machine
end

