-- ==== Sys2Proof/Machine/Codes.lean ====
section
/-! DEFINITION. The meanings of the code rows: configuration-word codes (R97 to R99) and fault cause codes (R251).
A code appears on its field; no state of CORE changes (`notes/assumptions/1.md`). -/

namespace Sys2Proof.Machine

/-- `DATARATE.RF/8` (R97). -/
def execDataRateRf8 (s : State) : Answer := .next (emit (.rateCode DataRate.rf8.code) s)

/-- `DATARATE.RF/16` (R97). -/
def execDataRateRf16 (s : State) : Answer := .next (emit (.rateCode DataRate.rf16.code) s)

/-- `DATARATE.RF/32` (R97). -/
def execDataRateRf32 (s : State) : Answer := .next (emit (.rateCode DataRate.rf32.code) s)

/-- `DATARATE.RF/40` (R97). -/
def execDataRateRf40 (s : State) : Answer := .next (emit (.rateCode DataRate.rf40.code) s)

/-- `DATARATE.RF/50` (R97). -/
def execDataRateRf50 (s : State) : Answer := .next (emit (.rateCode DataRate.rf50.code) s)

/-- `DATARATE.RF/64` (R97). -/
def execDataRateRf64 (s : State) : Answer := .next (emit (.rateCode DataRate.rf64.code) s)

/-- `DATARATE.RF/100` (R97). -/
def execDataRateRf100 (s : State) : Answer := .next (emit (.rateCode DataRate.rf100.code) s)

/-- `DATARATE.RF/128` (R97). -/
def execDataRateRf128 (s : State) : Answer := .next (emit (.rateCode DataRate.rf128.code) s)

/-- `MODULATION.Direct` (R98). -/
def execModulationDirect (s : State) : Answer := .next (emit (.modulationCode Modulation.direct.code) s)

/-- `MODULATION.PSK1` (R98). -/
def execModulationPsk1 (s : State) : Answer := .next (emit (.modulationCode Modulation.psk1.code) s)

/-- `MODULATION.PSK2` (R98). -/
def execModulationPsk2 (s : State) : Answer := .next (emit (.modulationCode Modulation.psk2.code) s)

/-- `MODULATION.PSK3` (R98). -/
def execModulationPsk3 (s : State) : Answer := .next (emit (.modulationCode Modulation.psk3.code) s)

/-- `MODULATION.FSK1` (R98). -/
def execModulationFsk1 (s : State) : Answer := .next (emit (.modulationCode Modulation.fsk1.code) s)

/-- `MODULATION.FSK2` (R98). -/
def execModulationFsk2 (s : State) : Answer := .next (emit (.modulationCode Modulation.fsk2.code) s)

/-- `MODULATION.FSK1a` (R98). -/
def execModulationFsk1a (s : State) : Answer := .next (emit (.modulationCode Modulation.fsk1a.code) s)

/-- `MODULATION.FSK2a` (R98). -/
def execModulationFsk2a (s : State) : Answer := .next (emit (.modulationCode Modulation.fsk2a.code) s)

/-- `MODULATION.Manchester` (R98). -/
def execModulationManchester (s : State) : Answer := .next (emit (.modulationCode Modulation.manchester.code) s)

/-- `MODULATION.Biphase` (R98). -/
def execModulationBiphase (s : State) : Answer := .next (emit (.modulationCode Modulation.biphase.code) s)

/-- `PSK.RF/2` (R99). -/
def execPskRf2 (s : State) : Answer := .next (emit (.pskCode PskSubcarrier.rf2.code) s)

/-- `PSK.RF/4` (R99). -/
def execPskRf4 (s : State) : Answer := .next (emit (.pskCode PskSubcarrier.rf4.code) s)

/-- `PSK.RF/8` (R99). -/
def execPskRf8 (s : State) : Answer := .next (emit (.pskCode PskSubcarrier.rf8.code) s)

/-- `FAULTCODE.RowParity` (R251). -/
def execFaultcodeRowParity (s : State) : Answer := .next (emit (.faultCode FramingKind.rowParity.code) s)

/-- `FAULTCODE.StopBit` (R251). -/
def execFaultcodeStopBit (s : State) : Answer := .next (emit (.faultCode FramingKind.stopBit.code) s)

/-- `FAULTCODE.ColumnParity` (R251). -/
def execFaultcodeColumnParity (s : State) : Answer := .next (emit (.faultCode FramingKind.columnParity.code) s)

/-- `FAULTCODE.TooManyPulses` (R251). -/
def execFaultcodeTooManyPulses (s : State) : Answer := .next (emit (.faultCode (CommandFault.tooManyPulses 0).code) s)

/-- `FAULTCODE.TooManySamples` (R251). -/
def execFaultcodeTooManySamples (s : State) : Answer := .next (emit (.faultCode (CommandFault.tooManySamples 0).code) s)

/-- `FAULTCODE.InvalidParameter` (R251). -/
def execFaultcodeInvalidParameter (s : State) : Answer := .next (emit (.faultCode CommandFault.invalidParameter.code) s)

end Sys2Proof.Machine
end

