-- ==== Sys2Proof/Machine/LineDecoders.lean ====
section
/-! DEFINITION. The meanings of `MD.PULSE`, `MD.SYNCLOST`, `BD.PULSE`, `BD.SYNCLOST`. -/

namespace Sys2Proof.Machine

/-- `MD.PULSE` (R152): the bit it emits is consumed by TD in the same step (R67). -/
def execMdPulse (level : Level) (isLong : Bool) (s : State) : Answer :=
  whenManchester s (fun md => mdPulse md { level := level, isLong := isLong })

/-- `MD.SYNCLOST` (R155). -/
def execMdSyncLost (s : State) : Answer := whenManchester s (fun _ => mdSyncLost)

/-- `BD.PULSE` (R157): the bit it emits is consumed by TD in the same step (R67). -/
def execBdPulse (level : Level) (isLong : Bool) (s : State) : Answer :=
  whenBiphase s (fun bd => bdPulse bd { level := level, isLong := isLong })

/-- `BD.SYNCLOST` (R158). -/
def execBdSyncLost (s : State) : Answer := whenBiphase s (fun _ => bdSyncLost)

end Sys2Proof.Machine
end

