-- ==== Sys2Proof/Machine/PortEvents.lean ====
section
/-! DEFINITION. The meanings of the output events: synchronization, Token, framing faults (R83 to R85, R107). -/

namespace Sys2Proof.Machine

/-- `SYNC.ACQ16` (R83, R107): SyncAcquired(16) reaches the CORE output and no stage reacts (R162). -/
def execSyncAcq16 (s : State) : Answer := .next (deliverSyncAcquired .d16 s)

/-- `SYNC.ACQ32` (R83, R107): SyncAcquired(32) reaches the CORE output and no stage reacts (R162). -/
def execSyncAcq32 (s : State) : Answer := .next (deliverSyncAcquired .d32 s)

/-- `SYNC.ACQ64` (R83, R107): SyncAcquired(64) reaches the CORE output and no stage reacts (R162). -/
def execSyncAcq64 (s : State) : Answer := .next (deliverSyncAcquired .d64 s)

/-- `SYNC.LOST` (R83, R107): SyncLost reaches the CORE output and resets the configured decoder (R155, R158). -/
def execSyncLost (s : State) : Answer := whenConfigured s deliverSyncLost

/-- `TOKEN` (R84, R107): a Token reaches the CORE output. -/
def execToken (id : Byte) (data : Word32) (s : State) : Answer := .next (emit (.token id data) s)

/-- `FAULT.ROW` (R85, R107): one event on the fault log and nothing else (R252). -/
def execFaultRow (nibIdx : BitVec 4) (s : State) : Answer := .next (emit (.framingFault .rowParity nibIdx.toNat) s)

/-- `FAULT.STOP` (R85, R107): one event on the fault log and nothing else (R252). -/
def execFaultStop (s : State) : Answer := .next (emit (.framingFault .stopBit 10) s)

/-- `FAULT.COL` (R85, R107): one event on the fault log and nothing else (R252). -/
def execFaultCol (s : State) : Answer := .next (emit (.framingFault .columnParity 10) s)

end Sys2Proof.Machine
end

