-- ==== Sys2Proof/Machine/Reset.lean ====
section
/-! DEFINITION. The meaning of `RESET`. -/

namespace Sys2Proof.Machine

/-- `RESET` (R281). -/
def execReset (s : State) : Answer := .next (resetCore s)

end Sys2Proof.Machine
end

