-- ==== Sys2Proof/Machine/TagEncoder.lean ====
section
/-! DEFINITION. The meanings of `TE.ENCODE_BLOCK`, `TE.ENCODE_PARAMS` and of the T5557 frames, opcodes,
configuration word and train they are made of. -/

namespace Sys2Proof.Machine

/-- `TE.ENCODE_BLOCK` (R222): a train, or a capacity fault and no train. -/
def execTeEncodeBlock (page : Bool) (block : BitVec 3) (lock passwordSend : Bool) (password dataWord : Word32)
    (s : State) : Answer :=
  whenDurationsFit s
    (sendCommand (commandBits page (if passwordSend then some password else none) lock dataWord block))

/-- `TE.ENCODE_PARAMS` (R223): an ordinal that names no value is refused with `InvalidParameter` (R219);
otherwise the configuration word goes to page 0 block 0 (R215). -/
def execTeEncodeParams (params : ParamsPort) (passwordSend : Bool) (password : Word32) (s : State) : Answer :=
  whenDurationsFit s fun s =>
    match params.word? with
    | some word =>
      sendCommand (commandBits false (if passwordSend then some password else none) params.lock word 0) s
    | none => raiseCommandFault .invalidParameter s

/-- `T5557.CMD.SHORT` (R90, semantics R222): the frame without password becomes a train. -/
def execT5557CmdShort (page lock : Bool) (dataWord : Word32) (block : BitVec 3) (s : State) : Answer :=
  whenDurationsFit s (sendCommand (commandBits page none lock dataWord block))

/-- `T5557.CMD.LONG` (R90, semantics R222): the frame with password becomes a train. -/
def execT5557CmdLong (page : Bool) (password : Word32) (lock : Bool) (dataWord : Word32) (block : BitVec 3)
    (s : State) : Answer :=
  whenDurationsFit s (sendCommand (commandBits page (some password) lock dataWord block))

/-- `TRAIN` (R101): a finished train passes the capacity check and goes to the sink (R205, R217). -/
def execTrain (samples : List Sample) (s : State) : Answer := whenDurationsFit s (finishTrain samples)

/-- `T5557.OPCODE.WRITE_PAGE0` (R91): the opcode 10. -/
def execT5557OpcodeWritePage0 (s : State) : Answer := .next (emit (.opcode (opcodeBits false)) s)

/-- `T5557.OPCODE.WRITE_PAGE1` (R91): the opcode 11. -/
def execT5557OpcodeWritePage1 (s : State) : Answer := .next (emit (.opcode (opcodeBits true)) s)

/-- `T5557.CONFIG_WORD` (R96, R214): the fields are packed into the word. -/
def execT5557ConfigWord (masterKey : BitVec 4) (rate : DataRate) (modulation : Modulation) (psk : PskSubcarrier)
    (answerOnRequest : Bool) (maxBlock : BitVec 3) (password sequenceTerminator powerOnResetDelay : Bool) (s : State) :
    Answer :=
  .next (emit (.configWord (configWord masterKey rate modulation psk answerOnRequest maxBlock password
    sequenceTerminator powerOnResetDelay)) s)

end Sys2Proof.Machine
end

