-- ==== Sys2Proof/Machine/TokenDecoder.lean ====
section
/-! DEFINITION. The meanings of `TD.BIT` and of a whole `EM4100.FRAME` on the air. -/

namespace Sys2Proof.Machine

/-- `TD.BIT` (R179). -/
def execTdBit (value : Bool) (s : State) : Answer := whenConfigured s (tdBit value)

/-- `EM4100.FRAME` (R86): TD receives the 64 frame bits in air order, first bit first (R199 (a)). -/
def execEm4100Frame (id : Byte) (token : Word32) (rows : BitVec 10) (column : Nibble) (s : State) : Answer :=
  whenConfigured s (tdBits (airFrame id token rows column))

end Sys2Proof.Machine
end

