-- ==== Sys2Proof/Machine/TokenEncoder.lean ====
section
/-! DEFINITION. The meaning of `EE.GENERATE` and of its two result words. -/

namespace Sys2Proof.Machine

/-- `EE.GENERATE` (R198): the result is `W0` and `W1`; no state is read or written (R190). -/
def execEeGenerate (customerId : Byte) (token : Word32) (s : State) : Answer :=
  .next (emit (.epromW1 (epromW1 customerId token)) (emit (.epromW0 (epromW0 customerId token)) s))

/-- `EPROM.W0` (R87): a word of this format appears on the result port. -/
def execEpromW0 (e : BitVec 3) (p3 : Bool) (d : Nibble) (p2 : Bool) (c : Nibble) (p1 : Bool) (b : Nibble) (p0 : Bool)
    (a : Nibble) (s : State) : Answer :=
  .next (emit (.epromW0 (epromW0Word e p3 d p2 c p1 b p0 a)) s)

/-- `EPROM.W1` (R87): a word of this format appears on the result port. -/
def execEpromW1 (q : Nibble) (p9 : Bool) (n9 : Nibble) (p8 : Bool) (n8 : Nibble) (p7 : Bool) (n7 : Nibble) (p6 : Bool)
    (n6 : Nibble) (p5 : Bool) (n5 : Nibble) (p4 : Bool) (e : Bool) (s : State) : Answer :=
  .next (emit (.epromW1 (epromW1Word q p9 n9 p8 n8 p7 n7 p6 n6 p5 n5 p4 e)) s)

end Sys2Proof.Machine
end

