-- ==== Sys2Proof/Machine/Wire.lean ====
section
/-! DEFINITION. The meanings of the device wire protocol rows (R233 to R236). They act on the reader device; no
state of CORE changes (R237, R241), and what the device answers is free (`notes/assumptions/9.md`). -/

namespace Sys2Proof.Machine

/-- The wire NOP (R233): answers `[RC]`. -/
def execWireNop (s : State) : Answer := .next (wireAnswer 0x00 0 0 [] s)

/-- GET_VERSION (R233): answers `[RC][MAJOR][MINOR]`. -/
def execWireGetVersion (s : State) : Answer := .next (wireAnswer 0x01 0 0 (freeBytes (s.draws + 1) 2) s)

/-- The wire RESET (R233, R241): the reader device is reset and answers nothing; CORE is not reset. -/
def execWireReset (s : State) : Answer :=
  .next { emit (.wire 0x02 0 0 []) s with coil := Config.freeCoil s.draws, draws := s.draws + 1 }

/-- COIL_ENABLE (R233): switches the reader's field (R269); its response is a dash in the source (N18). -/
def execWireCoilEnable (value : BitVec 16) (s : State) : Answer :=
  .next { wireBulk 0x03 0 value s with coil := coilAfter value s.draws }

/-- PULSE_VECTOR_READ (R233): answers raw bulk bytes. -/
def execWirePulseVectorRead (s : State) : Answer := .next (wireBulk 0x04 0 0 s)

/-- PULSE_VECTOR_WRITE (R233): raw bulk bytes. -/
def execWirePulseVectorWrite (s : State) : Answer := .next (wireBulk 0x05 0 0 s)

/-- SAMPLE_VECTOR_READ (R233): answers raw bulk bytes. -/
def execWireSampleVectorRead (s : State) : Answer := .next (wireBulk 0x06 0 0 s)

/-- SAMPLE_VECTOR_WRITE (R233): raw bulk bytes. -/
def execWireSampleVectorWrite (s : State) : Answer := .next (wireBulk 0x07 0 0 s)

/-- GET_BUFFER_SIZE (R233): answers `[RC][pulseBits][sampleBits]` and the two 16-bit sizes, high byte first. -/
def execWireGetBufferSize (s : State) : Answer := .next (wireAnswer 0x08 0 0 (freeBytes (s.draws + 1) 6) s)

/-- TRANSFER_START (R233): Index `[flags|prescaler]`, Value timeout; answers `[RC][transferId]`. -/
def execWireTransferStart (flags prescaler : Byte) (timeout : BitVec 16) (s : State) : Answer :=
  .next (wireAnswer 0x09 (flags ++ prescaler) timeout (freeBytes (s.draws + 1) 1) s)

/-- TRANSFER_STATUS (R233): Index `[transferId]`; answers `[RC][status][countHi][countLo]`, the status one of R235.
DESIGN CHOICE: an Index wider than the one byte of a transferId is answered in the same form, every byte of which is
free (`notes/assumptions/12.md`). -/
def execWireTransferStatus (index : BitVec 16) (s : State) : Answer :=
  .next (wireAnswer 0x0a index 0 ((Config.freeStatus s.draws).code :: freeBytes (s.draws + 1) 2) s)

/-- The flag mask FirstOnStart of the Index (R234). -/
def execWireFlagFirstOnStart (s : State) : Answer := .next (emit (.wireFlag WireFlag.firstOnStart.mask) s)

/-- The flag mask StartOnEdge of the Index (R234). -/
def execWireFlagStartOnEdge (s : State) : Answer := .next (emit (.wireFlag WireFlag.startOnEdge.mask) s)

/-- The flag mask FallingEdge of the Index (R234). -/
def execWireFlagFallingEdge (s : State) : Answer := .next (emit (.wireFlag WireFlag.fallingEdge.mask) s)

/-- The flag mask TxMode of the Index (R234). -/
def execWireFlagTxMode (s : State) : Answer := .next (emit (.wireFlag WireFlag.txMode.mask) s)

/-- The status byte Unknown (R235). -/
def execWireStatusUnknown (s : State) : Answer := .next (emit (.wireStatus WireStatus.unknown.code) s)

/-- The status byte Ok (R235). -/
def execWireStatusOk (s : State) : Answer := .next (emit (.wireStatus WireStatus.ok.code) s)

/-- The status byte Timeout (R235). -/
def execWireStatusTimeout (s : State) : Answer := .next (emit (.wireStatus WireStatus.timeout.code) s)

/-- The status byte InProgress (R235). -/
def execWireStatusInProgress (s : State) : Answer := .next (emit (.wireStatus WireStatus.inProgress.code) s)

/-- The RC byte Ok (R236). -/
def execWireRcOk (s : State) : Answer := .next (emit (.wireRc WireRc.ok.code) s)

/-- The RC byte InvalidCmd (R236). -/
def execWireRcInvalidCmd (s : State) : Answer := .next (emit (.wireRc WireRc.invalidCmd.code) s)

/-- The RC byte Busy (R236). -/
def execWireRcBusy (s : State) : Answer := .next (emit (.wireRc WireRc.busy.code) s)

/-- The RC byte InvalidVal (R236). -/
def execWireRcInvalidVal (s : State) : Answer := .next (emit (.wireRc WireRc.invalidVal.code) s)

/-- The RC byte Timeout (R236). -/
def execWireRcTimeout (s : State) : Answer := .next (emit (.wireRc WireRc.timeout.code) s)

end Sys2Proof.Machine
end

