-- ==== Sys2Proof/Machine/Dispatch.lean ====
section
/-! DEFINITION. The dispatch: one arm per constructor of `Instr`, each one call of its meaning. -/

namespace Sys2Proof.Machine

def exec (i : Instr) (s : State) : Host.Outcome State Fault Refusal :=
  match i with
  | .csSample level dur => Sys2Proof.Machine.execCsSample level dur s
  | .mdPulse level isLong => Sys2Proof.Machine.execMdPulse level isLong s
  | .mdSyncLost => Sys2Proof.Machine.execMdSyncLost s
  | .bdPulse level isLong => Sys2Proof.Machine.execBdPulse level isLong s
  | .bdSyncLost => Sys2Proof.Machine.execBdSyncLost s
  | .tdBit value => Sys2Proof.Machine.execTdBit value s
  | .eeGenerate customerId token => Sys2Proof.Machine.execEeGenerate customerId token s
  | .teEncodeBlock page block lock passwordSend password dataWord => Sys2Proof.Machine.execTeEncodeBlock page block lock passwordSend password dataWord s
  | .teEncodeParams params passwordSend password => Sys2Proof.Machine.execTeEncodeParams params passwordSend password s
  | .reset => Sys2Proof.Machine.execReset s
  | .syncAcq16 => Sys2Proof.Machine.execSyncAcq16 s
  | .syncAcq32 => Sys2Proof.Machine.execSyncAcq32 s
  | .syncAcq64 => Sys2Proof.Machine.execSyncAcq64 s
  | .syncLost => Sys2Proof.Machine.execSyncLost s
  | .token id data => Sys2Proof.Machine.execToken id data s
  | .faultRow nibIdx => Sys2Proof.Machine.execFaultRow nibIdx s
  | .faultStop => Sys2Proof.Machine.execFaultStop s
  | .faultCol => Sys2Proof.Machine.execFaultCol s
  | .em4100Frame id token rows column => Sys2Proof.Machine.execEm4100Frame id token rows column s
  | .epromW0 e p3 d p2 c p1 b p0 a => Sys2Proof.Machine.execEpromW0 e p3 d p2 c p1 b p0 a s
  | .epromW1 q p9 n9 p8 n8 p7 n7 p6 n6 p5 n5 p4 e => Sys2Proof.Machine.execEpromW1 q p9 n9 p8 n8 p7 n7 p6 n6 p5 n5 p4 e s
  | .t5557CmdShort page lock dataWord block => Sys2Proof.Machine.execT5557CmdShort page lock dataWord block s
  | .t5557CmdLong page password lock dataWord block => Sys2Proof.Machine.execT5557CmdLong page password lock dataWord block s
  | .t5557OpcodeWritePage0 => Sys2Proof.Machine.execT5557OpcodeWritePage0 s
  | .t5557OpcodeWritePage1 => Sys2Proof.Machine.execT5557OpcodeWritePage1 s
  | .t5557ConfigWord masterKey rate modulation psk answerOnRequest maxBlock password sequenceTerminator powerOnResetDelay => Sys2Proof.Machine.execT5557ConfigWord masterKey rate modulation psk answerOnRequest maxBlock password sequenceTerminator powerOnResetDelay s
  | .dataRateRf8 => Sys2Proof.Machine.execDataRateRf8 s
  | .dataRateRf16 => Sys2Proof.Machine.execDataRateRf16 s
  | .dataRateRf32 => Sys2Proof.Machine.execDataRateRf32 s
  | .dataRateRf40 => Sys2Proof.Machine.execDataRateRf40 s
  | .dataRateRf50 => Sys2Proof.Machine.execDataRateRf50 s
  | .dataRateRf64 => Sys2Proof.Machine.execDataRateRf64 s
  | .dataRateRf100 => Sys2Proof.Machine.execDataRateRf100 s
  | .dataRateRf128 => Sys2Proof.Machine.execDataRateRf128 s
  | .modulationDirect => Sys2Proof.Machine.execModulationDirect s
  | .modulationPsk1 => Sys2Proof.Machine.execModulationPsk1 s
  | .modulationPsk2 => Sys2Proof.Machine.execModulationPsk2 s
  | .modulationPsk3 => Sys2Proof.Machine.execModulationPsk3 s
  | .modulationFsk1 => Sys2Proof.Machine.execModulationFsk1 s
  | .modulationFsk2 => Sys2Proof.Machine.execModulationFsk2 s
  | .modulationFsk1a => Sys2Proof.Machine.execModulationFsk1a s
  | .modulationFsk2a => Sys2Proof.Machine.execModulationFsk2a s
  | .modulationManchester => Sys2Proof.Machine.execModulationManchester s
  | .modulationBiphase => Sys2Proof.Machine.execModulationBiphase s
  | .pskRf2 => Sys2Proof.Machine.execPskRf2 s
  | .pskRf4 => Sys2Proof.Machine.execPskRf4 s
  | .pskRf8 => Sys2Proof.Machine.execPskRf8 s
  | .train samples => Sys2Proof.Machine.execTrain samples s
  | .faultcodeRowParity => Sys2Proof.Machine.execFaultcodeRowParity s
  | .faultcodeStopBit => Sys2Proof.Machine.execFaultcodeStopBit s
  | .faultcodeColumnParity => Sys2Proof.Machine.execFaultcodeColumnParity s
  | .faultcodeTooManyPulses => Sys2Proof.Machine.execFaultcodeTooManyPulses s
  | .faultcodeTooManySamples => Sys2Proof.Machine.execFaultcodeTooManySamples s
  | .faultcodeInvalidParameter => Sys2Proof.Machine.execFaultcodeInvalidParameter s
  | .wireNop => Sys2Proof.Machine.execWireNop s
  | .wireGetVersion => Sys2Proof.Machine.execWireGetVersion s
  | .wireReset => Sys2Proof.Machine.execWireReset s
  | .wireCoilEnable value => Sys2Proof.Machine.execWireCoilEnable value s
  | .wirePulseVectorRead => Sys2Proof.Machine.execWirePulseVectorRead s
  | .wirePulseVectorWrite => Sys2Proof.Machine.execWirePulseVectorWrite s
  | .wireSampleVectorRead => Sys2Proof.Machine.execWireSampleVectorRead s
  | .wireSampleVectorWrite => Sys2Proof.Machine.execWireSampleVectorWrite s
  | .wireGetBufferSize => Sys2Proof.Machine.execWireGetBufferSize s
  | .wireTransferStart flags prescaler timeout => Sys2Proof.Machine.execWireTransferStart flags prescaler timeout s
  | .wireTransferStatus index => Sys2Proof.Machine.execWireTransferStatus index s
  | .wireFlagFirstOnStart => Sys2Proof.Machine.execWireFlagFirstOnStart s
  | .wireFlagStartOnEdge => Sys2Proof.Machine.execWireFlagStartOnEdge s
  | .wireFlagFallingEdge => Sys2Proof.Machine.execWireFlagFallingEdge s
  | .wireFlagTxMode => Sys2Proof.Machine.execWireFlagTxMode s
  | .wireStatusUnknown => Sys2Proof.Machine.execWireStatusUnknown s
  | .wireStatusOk => Sys2Proof.Machine.execWireStatusOk s
  | .wireStatusTimeout => Sys2Proof.Machine.execWireStatusTimeout s
  | .wireStatusInProgress => Sys2Proof.Machine.execWireStatusInProgress s
  | .wireRcOk => Sys2Proof.Machine.execWireRcOk s
  | .wireRcInvalidCmd => Sys2Proof.Machine.execWireRcInvalidCmd s
  | .wireRcBusy => Sys2Proof.Machine.execWireRcBusy s
  | .wireRcInvalidVal => Sys2Proof.Machine.execWireRcInvalidVal s
  | .wireRcTimeout => Sys2Proof.Machine.execWireRcTimeout s

end Sys2Proof.Machine
end

