-- ==== Sys2Proof/Machine/Step.lean ====
section
/-! DEFINITION. The step: one port transaction (R13). CORE fetches nothing (R41, R60); what the host has
presented waits in `inbox`, and a step consumes the first of it. -/

namespace Sys2Proof.Machine

/-- One step. Between inputs CORE holds its state unchanged (R269). -/
def step (s : State) : Host.Outcome State Fault Refusal :=
  match s.inbox with
  | [] => .next s
  | w :: rest =>
    match decode s.config w with
    | .ok i => exec i { s with inbox := rest }
    | .error r => takeUnlisted r { s with inbox := rest }

/-- The state with the bits of a table row presented as the next transaction (`notes/assumptions/4.md`). -/
def State.withFetchWord (s : State) (nbits w : Nat) : State :=
  { s with inbox := tablePortWord s.config nbits w :: s.inbox }

end Sys2Proof.Machine
end

