-- ==== Sys2Proof/Machine/StepKinds.lean ====
section
/-! DEFINITION. The three kinds of step of CORE (R13), singled out among the transactions that `step` runs, and
CORE closed to them. `step` runs every row of the operation table, so it also presents to a stage alone what in
CORE only another stage presents to it (`notes/assumptions/23.md`). -/

namespace Sys2Proof.Machine

/-- The kind of step that a transaction is (R13), where it is one. The operations of a single stage are parts of a
step (R108); the output events, formats, codes and wire commands are no operations of CORE. -/
def stepKind : Instr → Option StepKind
  | .csSample .. => some .sample
  | .eeGenerate .. | .teEncodeBlock .. | .teEncodeParams .. => some .writeCommand
  | .reset => some .reset
  | .mdPulse .. | .mdSyncLost | .bdPulse .. | .bdSyncLost | .tdBit .. => none
  | .syncAcq16 | .syncAcq32 | .syncAcq64 | .syncLost | .token .. | .faultRow .. | .faultStop | .faultCol => none
  | .em4100Frame .. | .epromW0 .. | .epromW1 .. | .t5557CmdShort .. | .t5557CmdLong .. => none
  | .t5557OpcodeWritePage0 | .t5557OpcodeWritePage1 | .t5557ConfigWord .. | .train .. => none
  | .dataRateRf8 | .dataRateRf16 | .dataRateRf32 | .dataRateRf40 | .dataRateRf50 | .dataRateRf64 | .dataRateRf100
  | .dataRateRf128 => none
  | .modulationDirect | .modulationPsk1 | .modulationPsk2 | .modulationPsk3 | .modulationFsk1 | .modulationFsk2
  | .modulationFsk1a | .modulationFsk2a | .modulationManchester | .modulationBiphase => none
  | .pskRf2 | .pskRf4 | .pskRf8 => none
  | .faultcodeRowParity | .faultcodeStopBit | .faultcodeColumnParity | .faultcodeTooManyPulses
  | .faultcodeTooManySamples | .faultcodeInvalidParameter => none
  | .wireNop | .wireGetVersion | .wireReset | .wireCoilEnable .. | .wirePulseVectorRead | .wirePulseVectorWrite
  | .wireSampleVectorRead | .wireSampleVectorWrite | .wireGetBufferSize | .wireTransferStart ..
  | .wireTransferStatus .. => none
  | .wireFlagFirstOnStart | .wireFlagStartOnEdge | .wireFlagFallingEdge | .wireFlagTxMode => none
  | .wireStatusUnknown | .wireStatusOk | .wireStatusTimeout | .wireStatusInProgress => none
  | .wireRcOk | .wireRcInvalidCmd | .wireRcBusy | .wireRcInvalidVal | .wireRcTimeout => none

/-- The transaction that waits first is no step of CORE of its own. -/
def waitsPartOfAStep (s : State) : Bool :=
  match s.inbox with
  | [] => false
  | w :: _ =>
    match decode s.config w with
    | .ok i => (stepKind i).isNone
    | .error r => decide (r = .mdSyncAcquired ∨ r = .bdSyncAcquired)

/-- CORE closed to its three kinds of step (R13): a step of the model, where the waiting transaction is a Sample, a
write-path command or `RESET`; any other is refused by name. -/
def coreStep (s : State) : Answer := if waitsPartOfAStep s then .refused .partOfAStep else step s

end Sys2Proof.Machine
end

