-- ==== Sys2Proof/Safety.lean ====
section
/-! DEFINITION. The terms statements are made in: running a list of instructions, what is new in the
record, the machine's invariant, the ideal pulse reconstructions (R160, R161), nominal write timing (R102). -/

namespace Sys2Proof.Machine

/-! ## Running -/

/-- The next state of an answer, where there is one. -/
def nextOf : Answer → Option State
  | .next s => some s
  | .fault _ => none
  | .refused _ => none

/-- The instructions one after the other, stopping at the first that does not answer a next state. -/
def runInstrs : List Instr → State → Answer
  | [], s => .next s
  | i :: rest, s =>
    match exec i s with
    | .next t => runInstrs rest t
    | .fault r => .fault r
    | .refused r => .refused r

/-- `CS.SAMPLE` for each Sample of a list (R67). -/
def sampleInstrs (l : List Sample) : List Instr := l.map fun s => .csSample s.level s.dur

/-- The read-path configuration inputs are those that `RESET` sampled (R285). -/
abbrev State.Configured (s : State) : Prop := s.cfg.read = s.latched

/-- A command that builds or checks a train can run: `DUR_W` is as `RESET` sampled it (R285) and every write-path
duration fits it (R296). -/
abbrev State.WriteReady (s : State) : Prop := s.cfg.read.durW = s.latched.durW ∧ durationsFit s.cfg = true

/-- What is new in the record of `t` since `s`. -/
def newEvents (s t : State) : List Event := t.trace.drop s.trace.length

/-! ## Kinds of events -/

/-- CS's outputs (R120). -/
def Event.fromCS : Event → Bool
  | .pulse _ => true
  | .acquired _ => true
  | .lost => true
  | _ => false

/-- The line decoder's output (R150). -/
def Event.fromLine : Event → Bool
  | .bit _ => true
  | _ => false

/-- TD's outputs (R170). -/
def Event.fromTD : Event → Bool
  | .token _ _ => true
  | .framingFault _ _ => true
  | _ => false

/-- The value of a BitEvent. -/
def Event.bitValue : Event → Option Bool
  | .bit b => some b
  | _ => none

/-- The bits that the line decoder emitted, in order. -/
def bitsOf (l : List Event) : List Bool := l.filterMap Event.bitValue

/-! ## The invariant -/

/-- The line code a decoder state is of. -/
def LineState.code : LineState → LineCode
  | .manchester _ => .manchester
  | .biphase _ => .biphase

/-- CS between steps: its windows are those of its divider (R23); the counters stay in their ranges (R24 to
R27); while unsynchronized every Sample of the window is counted in exactly one of the three counters (R124)
and the acquisition condition does not hold (R129). -/
abbrev CSState.Inv (c : CSState) : Prop :=
  c.shortRange = c.divider.shortRange ∧ c.longRange = c.divider.longRange ∧ c.pulseCount ≤ 49 ∧ c.errorCount ≤ 9 ∧
  c.hiCount + c.loCount + c.errorCount ≤ c.pulseCount ∧
  (c.hasSync = false →
    c.hiCount + c.loCount + c.errorCount = c.pulseCount ∧ ¬(4 < c.hiCount ∧ 4 < c.loCount ∧ c.errorCount < 4))

/-- TD between steps: its counters stay in their ranges (R32, R34, R35), byte 5 is still clear (R36), the
nibble buffer holds `fill` bits, and in `Preamble` everything but the run length is zero (R171, R178). -/
abbrev TDState.Inv (t : TDState) : Prop :=
  t.onesCount ≤ 8 ∧ t.fill ≤ 4 ∧ t.nibIdx ≤ 10 ∧ t.frame.b5 = 0 ∧ t.nibBuf.toNat < 2 ^ t.fill ∧
  (t.mode = .data → t.onesCount = 0) ∧
  (t.mode = .preamble → t.nibBuf = 0 ∧ t.fill = 0 ∧ t.nibIdx = 0 ∧ t.frame = Frame.zero)

/-- The machine between steps: CS, TD, and the decoder that the sampled line code selects (R151). -/
abbrev State.Inv (s : State) : Prop := s.cs.Inv ∧ s.td.Inv ∧ s.line.code = s.latched.lineCode

/-- What holds between the steps of a CORE that takes R13's three kinds of step only: beside the invariant, an
unsynchronized CORE's line decoder is in its reset state, since it has been fed no pulse since `RESET` or the last
SyncLost (R125, R155, R158, R281). -/
abbrev State.ClosedInv (s : State) : Prop := s.Inv ∧ (s.cs.hasSync = false → s.line = LineState.reset s.latched)

/-! ## Samples -/

/-- A duration in no window of any divider (R121, R122): below 48, 81 to 95, 161 to 191, 321 to 383, above 640. -/
abbrev neverMatches (smp : Sample) : Prop :=
  classify Divider.d16.shortRange Divider.d16.longRange smp.dur = .none ∧
  classify Divider.d32.shortRange Divider.d32.longRange smp.dur = .none ∧
  classify Divider.d64.shortRange Divider.d64.longRange smp.dur = .none

/-- The Sample of exactly the short or long length of a divider that a PulseEvent stands for (R121). -/
def idealSample (d : Divider) (p : PulseEvent) : Sample :=
  { dur := if p.isLong then d.longLen else d.shortLen, level := p.level }

/-! ## Ideal reconstructions -/

/-- The half-cells of a bit sequence (R160): for each bit its level, then the opposite level. -/
def halfCells (bits : List Bool) : List Bool := bits.flatMap fun b => [b, !b]

/-- Neighbouring half-cells of equal level merged: a level and how many half-cells it lasts (R160). -/
def mergeHalfCells : List Bool → List (Bool × Nat)
  | [] => []
  | b :: rest =>
    match mergeHalfCells rest with
    | [] => [(b, 1)]
    | (c, n) :: more => if b = c then (c, n + 1) :: more else (b, 1) :: (c, n) :: more

/-- The pulses of a list of half-cells: one half-cell is a short pulse, two a long one (R160). -/
def pulsesOfHalfCells (cells : List Bool) : List PulseEvent :=
  (mergeHalfCells cells).map fun r => { level := Level.ofBit r.1, isLong := decide (r.2 = 2) }

/-- The Manchester pulses that follow mid-cell of a cell of bit `last`: that cell's second half, then the
cells of `bits` (R154, R160). -/
def manchesterPulses (last : Bool) (bits : List Bool) : List PulseEvent :=
  pulsesOfHalfCells ((!last) :: halfCells bits)

/-- The Biphase pulses of a bit sequence from a starting level (R161): a 1 is one long pulse, a 0 two short
ones, the level toggling after each. -/
def biphasePulses (start : Level) : List Bool → List PulseEvent
  | [] => []
  | true :: rest => { level := start, isLong := true } :: biphasePulses start.flip rest
  | false :: rest =>
    { level := start, isLong := false } :: { level := start.flip, isLong := false } :: biphasePulses start rest

/-! ## Write timing -/

/-- The data pulses lie in the ranges of the tag's write timing: 48 to 63 carrier cycles for a 1, 16 to 31
for a 0, at a positive number of microseconds per cycle (R102, R206). TE does not check it (R296). -/
abbrev nominalTiming (w : WriteConfig) : Prop :=
  0 < w.tcUs ∧ 48 * w.tcUs ≤ w.tOne ∧ w.tOne ≤ 63 * w.tcUs ∧ 16 * w.tcUs ≤ w.tZero ∧ w.tZero ≤ 31 * w.tcUs

/-! ## Parts of the state -/

/-- The state of CORE without the host's side: CS, line decoder, TD, sampled configuration (R20). -/
def State.core (s : State) : CSState × LineState × TDState × ReadConfig := (s.cs, s.line, s.td, s.latched)

/-- Byte `k` of the frame (R36); 0 where there is none. -/
def Frame.byte (f : Frame) : Nat → Byte
  | 0 => f.b0
  | 1 => f.b1
  | 2 => f.b2
  | 3 => f.b3
  | 4 => f.b4
  | 5 => f.b5
  | _ => 0

/-- The XOR of the two nibbles of a byte. -/
def nibbleXor (b : Byte) : Nibble := b.extractLsb' 4 4 ^^^ b.extractLsb' 0 4

/-- CS counters after the window-boundary check (R130): cleared when the fiftieth Sample has been counted. -/
def windowed (c : CSState) : CSState :=
  if 50 ≤ c.pulseCount then { c with pulseCount := 0, errorCount := 0, hiCount := 0, loCount := 0 } else c

/-- The line decoder's state after a SyncLost (R155, R158). -/
def lineAfterLoss (c : ReadConfig) : LineState → LineState
  | .manchester _ => .manchester { lastOutput := c.mdResetOutput, timerRunning := false }
  | .biphase _ => .biphase { lastWasShort := false }

/-- The operations of the read path (R2, R108). -/
def isReadPath : Instr → Bool
  | .csSample _ _ => true
  | .mdPulse _ _ => true
  | .mdSyncLost => true
  | .bdPulse _ _ => true
  | .bdSyncLost => true
  | .tdBit _ => true
  | .reset => true
  | _ => false

/-- The commands of the write path (R2, R108). -/
def isWritePath : Instr → Bool
  | .eeGenerate _ _ => true
  | .teEncodeBlock _ _ _ _ _ _ => true
  | .teEncodeParams _ _ _ => true
  | _ => false

/-- A list of bits with the bit at one position inverted (R182). -/
def flipBit (bits : List Bool) (k : Nat) : List Bool := bits.mapIdx fun i b => if i = k then !b else b

/-- The 64 bits of a valid frame in air order (R86). -/
def validFrame (id : Byte) (token : Word32) : List Bool := airFrame id token (rowsOf id token) (columnOf id token)

end Sys2Proof.Machine
end

