-- ==== Sys2Proof/Certificates/Slice0/Obligations.lean ====
section
/-! DEFINITION. The statements for the provers, from the numbered rules of the spec. -/

open Sys2Proof Sys2Proof.Machine

/-! ## Decoding, encoding, stepping -/

/-- Every instruction a port can carry is read back from its port word, with every operand (R107, R110, R86,
R87, R90, R96 to R101, R233 to R236, R251). -/
def Obligations.DecodeEncodeRoundTrip : Prop :=
  ∀ (c : Config) (i : Instr), WellFormed c i = true → decode c (encode c i) = .ok i

/-- Whatever the decoder accepts is an instruction a port can carry. -/
def Obligations.DecodedInstructionIsWellFormed : Prop :=
  ∀ (c : Config) (w : PortWord) (i : Instr), decode c w = .ok i → WellFormed c i = true

/-- Words written out from the encodings of rules R107, R86, R87, R90, R91, R96 and R233 decode to what they stand for:
events, a frame, a short and a long command frame, an opcode, a configuration word, a control transfer. That bit `k` of
a command frame's number and of an opcode's is `cmdbits[k]` is the model's choice (`notes/assumptions/2.md`). -/
def Obligations.DecodeReadsTheSpecsWords : Prop :=
  decode Config.default ⟨.sample, [0b10000000001000000]⟩ = .ok (.csSample .high 64) ∧
  decode Config.default ⟨.mdPulse, [0b01]⟩ = .ok (.mdPulse .low true) ∧
  decode Config.default ⟨.sync, [0b110]⟩ = .ok .syncAcq64 ∧
  decode Config.default ⟨.token, [0x123456789A]⟩ = .ok (.token 0x12 0x3456789A) ∧
  decode Config.default ⟨.framingFault, [0b011001]⟩ = .ok (.faultRow 9) ∧
  decode Config.default ⟨.frame, [0x69531F19526531FF]⟩ =
    .ok (.em4100Frame 0x12 0x3456789A (rowsOf 0x12 0x3456789A) (columnOf 0x12 0x3456789A)) ∧
  decode Config.default ⟨.cmdShort, [0b110_00000000000000000000000000000101_1_1_1]⟩ = .ok (.t5557CmdShort true true 5 3) ∧
  decode Config.default ⟨.cmdLong, [0b110_00000000000000000000000000000101_1_00000000000000000000000000000001_1_1]⟩ =
    .ok (.t5557CmdLong true 0x80000000 true 5 3) ∧
  decode Config.default ⟨.opcode, [0b01]⟩ = .ok .t5557OpcodeWritePage0 ∧
  decode Config.default ⟨.configWord, [0x00148040]⟩ =
    .ok (.t5557ConfigWord 0 .rf64 .manchester .rf2 false 2 false false false) ∧
  decode Config.default ⟨.wireCommand, [0x09, 0xA012, 0x0100]⟩ = .ok (.wireTransferStart 0xA0 0x12 0x0100)

/-- A step consumes the first waiting port word and runs the instruction it decodes to, at the state without that
word; a word that decodes to none is refused by its reason, but for a SyncAcquired at the sync input of the configured
line decoder, which is consumed without effect (R162, the spec's decision D36); with no word waiting nothing changes
(R13, R269; the waiting words are the model's own field, `notes/assumptions/4.md`, and that word is named in `22.md`). -/
def Obligations.StepRunsTheDecodedInstruction : Prop :=
  (∀ (s : State) (w : PortWord) (rest : List PortWord) (i : Instr), s.inbox = w :: rest → decode s.config w = .ok i →
    step s = exec i { s with inbox := rest }) ∧
  (∀ (s : State) (w : PortWord) (rest : List PortWord) (r : Reject), s.inbox = w :: rest → decode s.config w = .error r →
    r ≠ .mdSyncAcquired → r ≠ .bdSyncAcquired → step s = .refused (.undecodable r)) ∧
  (∀ (s : State) (n : Nat) (rest : List PortWord), n ∈ [4, 5, 6] → s.Configured →
    (∀ md, s.inbox = ⟨.mdSync, [n]⟩ :: rest → s.line = .manchester md → step s = .next { s with inbox := rest }) ∧
    (∀ bd, s.inbox = ⟨.bdSync, [n]⟩ :: rest → s.line = .biphase bd → step s = .next { s with inbox := rest })) ∧
  (∀ s : State, s.inbox = [] → step s = .next s)

/-- The numbers that stand for a frame and for the command frames hold, bit by bit from bit 0, the bits in air
order (R86, R87, R90; the numbering of a command frame is the model's, `notes/assumptions/2.md`). -/
def Obligations.FrameWordsHoldTheAirOrder : Prop :=
  (∀ (id : Byte) (token : Word32) (rows : BitVec 10) (column : Nibble),
    lsbFirst (frameWord id token rows column) = airFrame id token rows column) ∧
  (∀ (page lock : Bool) (dataWord : Word32) (block : BitVec 3),
    lsbFirst (cmdShortWord page lock dataWord block) = commandBits page none lock dataWord block) ∧
  (∀ (page : Bool) (password : Word32) (lock : Bool) (dataWord : Word32) (block : BitVec 3),
    lsbFirst (cmdLongWord page password lock dataWord block) = commandBits page (some password) lock dataWord block)

/-! ## The invariant -/

/-- Every step keeps the invariant: CS's windows belong to its divider, all counters stay in their ranges, TD
in `Preamble` is clear, the decoder is the one the sampled line code selects (R23 to R36, R151). -/
def Obligations.StepKeepsInvariant : Prop := ∀ s t : State, s.Inv → step s = .next t → t.Inv

/-- The reset state meets the invariant (its configuration is the model's choice of rule R8's defaults,
`notes/assumptions/5.md`). -/
def Obligations.ResetStateMeetsInvariant : Prop := State.reset.Inv

/-- CORE has exactly three kinds of step, a Sample, a write-path command and `RESET` (R13); a waiting transaction of one
of them is run, any other is refused. Closed to them, CORE keeps its invariant and beside it this: while unsynchronized,
its line decoder is in its reset state. The reset state meets both (its configuration is the model's,
`notes/assumptions/5.md`; that `step` also runs the other rows is the model's choice, `notes/assumptions/23.md`). -/
def Obligations.CoreTakesThreeKindsOfStep : Prop :=
  (∀ i : Instr, (stepKind i = some .sample ↔ ∃ level dur, i = .csSample level dur) ∧
    (stepKind i = some .writeCommand ↔ (∃ id token, i = .eeGenerate id token) ∨
      (∃ page block lock pws password dataWord, i = .teEncodeBlock page block lock pws password dataWord) ∨
      (∃ params pws password, i = .teEncodeParams params pws password)) ∧
    (stepKind i = some .reset ↔ i = .reset)) ∧
  (∀ (s : State) (w : PortWord) (rest : List PortWord) (i : Instr), s.inbox = w :: rest → decode s.config w = .ok i →
    coreStep s = if (stepKind i).isSome then exec i { s with inbox := rest } else .refused .partOfAStep) ∧
  (∀ s t : State, s.ClosedInv → coreStep s = .next t → t.ClosedInv) ∧ State.reset.ClosedInv

/-! ## Carrier Synchronizer -/

/-- The table of rule R121, the two windows of each divider, and rule R122: with the windows of a divider a duration
is short exactly on the short range, long exactly on the long range, and none elsewhere. That both ends are inside is
the spec's decision D4. -/
def Obligations.WindowsOfEachDivider : Prop :=
  (Divider.d16.shortLen = 64 ∧ Divider.d16.shortRange = ⟨48, 80⟩ ∧ Divider.d16.longLen = 128 ∧ Divider.d16.longRange = ⟨96, 160⟩) ∧
  (Divider.d32.shortLen = 128 ∧ Divider.d32.shortRange = ⟨96, 160⟩ ∧ Divider.d32.longLen = 256 ∧ Divider.d32.longRange = ⟨192, 320⟩) ∧
  (Divider.d64.shortLen = 256 ∧ Divider.d64.shortRange = ⟨192, 320⟩ ∧ Divider.d64.longLen = 512 ∧ Divider.d64.longRange = ⟨384, 640⟩) ∧
  (∀ (d : Divider) (dur : Nat), classify d.shortRange d.longRange dur =
    if 3 * d.value ≤ dur ∧ dur ≤ 5 * d.value then .short
    else if 6 * d.value ≤ dur ∧ dur ≤ 10 * d.value then .long else .none) ∧
  (Divider.d16.value = 16 ∧ Divider.d32.value = 32 ∧ Divider.d64.value = 64)

/-- Unsynchronized, a Sample that ends neither in lost lock nor in acquisition is counted, by level on a match
and as an error on a mismatch, and the window boundary is applied; nothing is emitted and nothing outside CS
changes (R123, R124, R130). -/
def Obligations.UnsynchronizedSampleIsCounted : Prop :=
  ∀ (s : State) (level : Level) (dur : Nat), s.Configured → dur < 2 ^ s.latched.durW → s.cs.hasSync = false →
    (classify s.cs.shortRange s.cs.longRange dur = .none → s.cs.errorCount < 9 →
      ¬(4 < s.cs.hiCount ∧ 4 < s.cs.loCount ∧ s.cs.errorCount + 1 < 4) →
      exec (.csSample level dur) s = .next { s with
        cs := windowed { s.cs with pulseCount := s.cs.pulseCount + 1, errorCount := s.cs.errorCount + 1 } }) ∧
    (classify s.cs.shortRange s.cs.longRange dur ≠ .none → level = .high → s.cs.errorCount < 10 →
      ¬(4 < s.cs.hiCount + 1 ∧ 4 < s.cs.loCount ∧ s.cs.errorCount < 4) →
      exec (.csSample level dur) s = .next { s with
        cs := windowed { s.cs with pulseCount := s.cs.pulseCount + 1, hiCount := s.cs.hiCount + 1 } }) ∧
    (classify s.cs.shortRange s.cs.longRange dur ≠ .none → level = .low → s.cs.errorCount < 10 →
      ¬(4 < s.cs.hiCount ∧ 4 < s.cs.loCount + 1 ∧ s.cs.errorCount < 4) →
      exec (.csSample level dur) s = .next { s with
        cs := windowed { s.cs with pulseCount := s.cs.pulseCount + 1, loCount := s.cs.loCount + 1 } })

/-- A matching Sample that brings both level counts above 4 with fewer than 4 errors declares lock: `hasSync`
becomes true, SyncAcquired carries the divider, no counter is cleared but by the window boundary (R129, R130, R134). -/
def Obligations.AcquiringSampleDeclaresLock : Prop :=
  ∀ (s : State) (level : Level) (dur : Nat), s.Configured → dur < 2 ^ s.latched.durW → s.cs.hasSync = false →
    classify s.cs.shortRange s.cs.longRange dur ≠ .none → s.cs.errorCount < 4 →
    4 < s.cs.hiCount + (if level = .high then 1 else 0) → 4 < s.cs.loCount + (if level = .low then 1 else 0) →
    exec (.csSample level dur) s = .next { s with
      cs := windowed { s.cs with
        hasSync := true
        pulseCount := s.cs.pulseCount + 1
        hiCount := s.cs.hiCount + (if level = .high then 1 else 0)
        loCount := s.cs.loCount + (if level = .low then 1 else 0) }
      trace := s.trace ++ [.acquired s.cs.divider] }

/-- Synchronized, a matching Sample is forwarded as a PulseEvent of its level and length, and what the line decoder does
with it in the same step is what `MD.PULSE` or `BD.PULSE` does with that pulse, whichever is configured; CS changes only
by the pulse count and the window boundary (R125, R130, R67, R151). -/
def Obligations.SynchronizedSampleIsForwarded : Prop :=
  ∀ (s : State) (level : Level) (dur : Nat) (k : PulseClass) (u : State), s.Configured → dur < 2 ^ s.latched.durW →
    s.cs.hasSync = true → s.cs.errorCount < 10 → classify s.cs.shortRange s.cs.longRange dur = k → k ≠ .none →
    u = { s with
      cs := windowed { s.cs with pulseCount := s.cs.pulseCount + 1 }
      trace := s.trace ++ [.pulse { level := level, isLong := decide (k = .long) }] } →
    exec (.csSample level dur) s = .next (linePulse { level := level, isLong := decide (k = .long) } u) ∧
    (∀ md, s.line = .manchester md → exec (.csSample level dur) s = exec (.mdPulse level (decide (k = .long))) u) ∧
    (∀ bd, s.line = .biphase bd → exec (.csSample level dur) s = exec (.bdPulse level (decide (k = .long))) u)

/-- Synchronized, a Sample in neither window is counted as an error and dropped (R125, R130). -/
def Obligations.SynchronizedMissIsCounted : Prop :=
  ∀ (s : State) (level : Level) (dur : Nat), s.Configured → dur < 2 ^ s.latched.durW → s.cs.hasSync = true →
    s.cs.errorCount < 9 → classify s.cs.shortRange s.cs.longRange dur = .none →
    exec (.csSample level dur) s = .next { s with
      cs := windowed { s.cs with pulseCount := s.cs.pulseCount + 1, errorCount := s.cs.errorCount + 1 } }

/-- The tenth error of a window loses lock, synchronized or not and even on the fiftieth pulse: counters clear,
`hasSync` false, SyncLost, the line decoder resets, the divider and its windows rotate; TD keeps its state
(R127, R128, R155, R158, R180, R258). -/
def Obligations.TenthErrorLosesLock : Prop :=
  ∀ (s : State) (level : Level) (dur : Nat), s.Configured → dur < 2 ^ s.latched.durW → s.cs.errorCount = 9 →
    classify s.cs.shortRange s.cs.longRange dur = .none →
    exec (.csSample level dur) s = .next { s with
      cs := {
        divider := s.cs.divider.next
        hasSync := false
        shortRange := s.cs.divider.next.shortRange
        longRange := s.cs.divider.next.longRange
        pulseCount := 0
        errorCount := 0
        hiCount := 0
        loCount := 0 }
      line := lineAfterLoss s.latched s.line
      trace := s.trace ++ [.lost] }

/-- Every Sample completes in every state of the invariant, and what it causes is new at the end of the record: at most one
event of CS, one bit, one output of TD, and never a SyncLost together with an output of TD (R132, R133, R164,
R184, R258). -/
def Obligations.EachSampleCausesAtMostOneEventOfEachStage : Prop :=
  ∀ (s : State) (level : Level) (dur : Nat), s.Configured → s.Inv → dur < 2 ^ s.latched.durW →
    ∃ t, exec (.csSample level dur) s = .next t ∧ t.trace = s.trace ++ newEvents s t ∧
      (newEvents s t).countP Event.fromCS ≤ 1 ∧ (newEvents s t).countP Event.fromLine ≤ 1 ∧
      (newEvents s t).countP Event.fromTD ≤ 1 ∧
      (Event.lost ∈ newEvents s t → (newEvents s t).countP Event.fromTD = 0) ∧
      t.cfg = s.cfg ∧ t.latched = s.latched ∧ t.inbox = s.inbox ∧ t.coil = s.coil ∧ t.draws = s.draws

/-- On Samples in no window of any of the three dividers, from the start of a window: lock is lost on every tenth, and on no
other, so that after `k` of thirty Samples the record has `k / 10` losses and CS has counted the `k % 10` since; the
divider goes through 16, 32, 64 and back to 16, from wherever it stood (R128, R133). TD keeps its state. -/
def Obligations.NeverMatchingInputCyclesTheDividers : Prop :=
  ∀ (s : State) (l : List Sample) (order : List Divider) (k : Nat), s.Configured → s.Inv → s.cs.pulseCount = 0 →
    l.length = 30 → (∀ x ∈ l, neverMatches x ∧ x.dur < 2 ^ s.latched.durW) →
    order ∈ [[.d16, .d32, .d64, .d16], [.d32, .d64, .d16, .d32], [.d64, .d16, .d32, .d64]] →
    order[0]? = some s.cs.divider → k ≤ 30 →
    ∃ t d, runInstrs (sampleInstrs (l.take k)) s = .next t ∧ order[k / 10]? = some d ∧
      t.trace = s.trace ++ List.replicate (k / 10) .lost ∧
      t.cs = { CSState.reset d with
        hasSync := s.cs.hasSync && decide (k < 10)
        pulseCount := k % 10
        errorCount := k % 10 } ∧
      t.line = (if k < 10 then s.line else lineAfterLoss s.latched s.line) ∧ t.td = s.td

/-- Nineteen consecutive Samples out of the current windows lose lock, wherever the window boundary falls, whatever
other divider they match (R138). -/
def Obligations.NineteenBadSamplesLoseLock : Prop :=
  ∀ (s : State) (l : List Sample), s.Configured → s.Inv → l.length = 19 →
    (∀ x ∈ l, classify s.cs.shortRange s.cs.longRange x.dur = .none ∧ x.dur < 2 ^ s.latched.durW) →
    ∃ t, runInstrs (sampleInstrs l) s = .next t ∧ Event.lost ∈ newEvents s t

/-- From the start of a window, unsynchronized, the first nine Samples cause no event at all, and nothing
outside CS changes (R136, R287). -/
def Obligations.NoEventInTheFirstNineSamples : Prop :=
  ∀ (s : State) (l : List Sample), s.Configured → s.Inv → s.cs.hasSync = false → s.cs.pulseCount = 0 → l.length ≤ 9 →
    (∀ x ∈ l, x.dur < 2 ^ s.latched.durW) →
    ∃ cs, runInstrs (sampleInstrs l) s = .next { s with cs := cs } ∧ cs.hasSync = false

/-- A Sample too wide for its port is refused, and a read-path transaction under a configuration that `RESET`
has not sampled is refused (R80, R285; `notes/assumptions/6.md`, `8.md`). -/
def Obligations.ReadPathRefusesWhatIsOutsideItsDomain : Prop :=
  (∀ (s : State) (level : Level) (dur : Nat), 2 ^ s.latched.durW ≤ dur →
    exec (.csSample level dur) s = .refused .sampleTooWide) ∧
  (∀ (s : State) (i : Instr), ¬ s.Configured → s.line.code = s.latched.lineCode →
    ((∃ level dur, i = .csSample level dur ∧ dur < 2 ^ s.latched.durW) ∨ (∃ b, i = .tdBit b) ∨ i = .syncLost ∨
      (∃ id token rows column, i = .em4100Frame id token rows column) ∨
      (s.latched.lineCode = .manchester ∧ (i = .mdSyncLost ∨ ∃ level isLong, i = .mdPulse level isLong)) ∨
      (s.latched.lineCode = .biphase ∧ (i = .bdSyncLost ∨ ∃ level isLong, i = .bdPulse level isLong))) →
    exec i s = .refused .configurationChanged)

/-! ## Line decoders -/

/-- `MD.PULSE`, all four cases: timer running; idle with a level change, long or short; idle without one. The
bit it emits is consumed by TD in the same step (R152, R153). That an idle decoder ignores a pulse of its own level is
the spec's decision D12, that High is the bit 1 its decision D14. -/
def Obligations.MdPulseFollowsItsRule : Prop :=
  ∀ (s : State) (md : MDState) (level : Level) (isLong : Bool), s.Configured → s.line = .manchester md →
    exec (.mdPulse level isLong) s = .next (
      if md.timerRunning = true ∨ (level ≠ md.lastOutput ∧ isLong = true) then
        tdBit level.bit { s with
          line := .manchester { lastOutput := level, timerRunning := false }
          trace := s.trace ++ [.bit level.bit] }
      else if level ≠ md.lastOutput then
        { s with line := .manchester { lastOutput := md.lastOutput, timerRunning := true } }
      else s)

/-- `MD.SYNCLOST`: the decoder's reset state, nothing emitted (R155). -/
def Obligations.MdSyncLostResetsTheDecoder : Prop :=
  ∀ (s : State) (md : MDState), s.Configured → s.line = .manchester md →
    exec .mdSyncLost s =
      .next { s with line := .manchester { lastOutput := s.latched.mdResetOutput, timerRunning := false } }

/-- `BD.PULSE`, all three cases; the level of the pulse appears in none (R157, R159). -/
def Obligations.BdPulseFollowsItsRule : Prop :=
  ∀ (s : State) (bd : BDState) (level : Level) (isLong : Bool), s.Configured → s.line = .biphase bd →
    exec (.bdPulse level isLong) s = .next (
      if isLong = true then
        tdBit true { s with line := .biphase { lastWasShort := false }, trace := s.trace ++ [.bit true] }
      else if bd.lastWasShort = true then
        tdBit false { s with line := .biphase { lastWasShort := false }, trace := s.trace ++ [.bit false] }
      else { s with line := .biphase { lastWasShort := true } })

/-- `BD.SYNCLOST`: the pending flag clears, nothing is emitted (R158). -/
def Obligations.BdSyncLostClearsThePendingFlag : Prop :=
  ∀ (s : State) (bd : BDState), s.Configured → s.line = .biphase bd →
    exec .bdSyncLost s = .next { s with line := .biphase { lastWasShort := false } }

/-- An operation of the decoder that the configured CORE does not have is refused (R151; the refusal is the model's
choice, `notes/assumptions/7.md`). -/
def Obligations.AbsentDecoderIsRefused : Prop :=
  (∀ (s : State) (bd : BDState) (level : Level) (isLong : Bool), s.line = .biphase bd →
    exec (.mdPulse level isLong) s = .refused .decoderAbsent ∧ exec .mdSyncLost s = .refused .decoderAbsent) ∧
  (∀ (s : State) (md : MDState) (level : Level) (isLong : Bool), s.line = .manchester md →
    exec (.bdPulse level isLong) s = .refused .decoderAbsent ∧ exec .bdSyncLost s = .refused .decoderAbsent)

/-- MD in phase gives back the bits of an ideal Manchester stream: idle at mid-cell of a cell of bit `last`, fed
the pulses that follow, it emits exactly the bits, TD consumes them in order, and it ends armed at mid-cell of
the last cell; CS does not change (R152, R154, R160). -/
def Obligations.ManchesterDecoderRecoversTheBits : Prop :=
  ∀ (s : State) (last : Bool) (bits : List Bool), s.Configured →
    s.line = .manchester { lastOutput := Level.ofBit last, timerRunning := false } →
    ∃ t, runInstrs ((manchesterPulses last bits).map fun p => .mdPulse p.level p.isLong) s = .next t ∧
      bitsOf (newEvents s t) = bits ∧ t.td = (tdBits bits s).td ∧ t.cs = s.cs ∧
      t.line = .manchester { lastOutput := Level.ofBit (bits.getLastD last), timerRunning := true }

/-- BD at a bit boundary gives back the bits of an ideal Biphase stream of any starting level (R157, R161). -/
def Obligations.BiphaseDecoderRecoversTheBits : Prop :=
  ∀ (s : State) (start : Level) (bits : List Bool), s.Configured → s.line = .biphase { lastWasShort := false } →
    ∃ t, runInstrs ((biphasePulses start bits).map fun p => .bdPulse p.level p.isLong) s = .next t ∧
      bitsOf (newEvents s t) = bits ∧ t.td = (tdBits bits s).td ∧ t.cs = s.cs ∧
      t.line = .biphase { lastWasShort := false }

/-- A synchronized CORE fed the ideal Samples of its divider keeps its lock and decodes them, for both line codes
and every divider: no SyncLost and no SyncAcquired, exactly the bits, TD as after those bits (R125, R130, R160, R161). -/
def Obligations.SynchronizedCoreDecodesIdealSamples : Prop :=
  ∀ (s : State) (bits : List Bool), s.Configured → s.Inv → s.cs.hasSync = true → 10 ≤ s.latched.durW →
    (∀ start, s.line = .biphase { lastWasShort := false } →
      ∃ t, runInstrs (sampleInstrs ((biphasePulses start bits).map (idealSample s.cs.divider))) s = .next t ∧
        bitsOf (newEvents s t) = bits ∧ t.td = (tdBits bits s).td ∧ t.cs.hasSync = true ∧
        t.cs.divider = s.cs.divider ∧ Event.lost ∉ newEvents s t ∧ (∀ d, Event.acquired d ∉ newEvents s t) ∧
        t.line = .biphase { lastWasShort := false }) ∧
    (∀ last, s.line = .manchester { lastOutput := Level.ofBit last, timerRunning := false } →
      ∃ t, runInstrs (sampleInstrs ((manchesterPulses last bits).map (idealSample s.cs.divider))) s = .next t ∧
        bitsOf (newEvents s t) = bits ∧ t.td = (tdBits bits s).td ∧ t.cs.hasSync = true ∧
        t.cs.divider = s.cs.divider ∧ Event.lost ∉ newEvents s t ∧ (∀ d, Event.acquired d ∉ newEvents s t) ∧
        t.line = .manchester { lastOutput := Level.ofBit (bits.getLastD last), timerRunning := true })

/-! ## Token Decoder -/

/-- `TD.BIT` in `Preamble`: a 0 clears the run length, a 1 lengthens it, the ninth 1 enters `Data` with
everything cleared (R171). -/
def Obligations.PreambleBitCountsOnes : Prop :=
  ∀ s : State, s.Configured → s.td.mode = .preamble →
    exec (.tdBit false) s = .next { s with td := { s.td with onesCount := 0 } } ∧
    (s.td.onesCount ≠ 8 → exec (.tdBit true) s = .next { s with td := { s.td with onesCount := s.td.onesCount + 1 } }) ∧
    (s.td.onesCount = 8 → exec (.tdBit true) s = .next { s with
      td := { mode := .data, onesCount := 0, nibBuf := 0, fill := 0, nibIdx := 0, frame := ⟨0, 0, 0, 0, 0, 0⟩ } })

/-- `TD.BIT` in `Data` with fewer than four bits collected: the bit enters the nibble at bit 0, the earlier bits
move up, the fill count advances, nothing else happens (R172). -/
def Obligations.DataBitEntersTheNibble : Prop :=
  ∀ (s : State) (b : Bool), s.Configured → s.td.mode = .data → s.td.fill < 4 →
    ∃ n : Nibble, n.getLsbD 0 = b ∧ (∀ k < 3, n.getLsbD (k + 1) = s.td.nibBuf.getLsbD k) ∧
      exec (.tdBit b) s = .next { s with td := { s.td with nibBuf := n, fill := s.td.fill + 1 } }

/-- The fifth bit of a group 0 to 9 that is not the even parity of the nibble: one row-parity fault of that
group is logged and TD is in its reset state (R173, R178). -/
def Obligations.RowParityMismatchTakesTheFault : Prop :=
  ∀ (s : State) (b : Bool), s.Configured → s.td.mode = .data → s.td.fill = 4 → s.td.nibIdx ≤ 9 → b ≠ parity4 s.td.nibBuf →
    exec (.tdBit b) s = .next { s with
      td := { mode := .preamble, onesCount := 0, nibBuf := 0, fill := 0, nibIdx := 0, frame := ⟨0, 0, 0, 0, 0, 0⟩ }
      trace := s.trace ++ [.framingFault .rowParity s.td.nibIdx] }

/-- The accepted fifth bit of a group 0 to 9: the nibble goes to the high half of byte `j/2` for even `j`, to the
low half for odd `j`; the other half and the other bytes stay; the counters move on; nothing is emitted (R173, R175). -/
def Obligations.AcceptedGroupIsPacked : Prop :=
  ∀ s : State, s.Configured → s.td.mode = .data → s.td.fill = 4 → s.td.nibIdx ≤ 9 →
    ∃ f : Frame, exec (.tdBit (parity4 s.td.nibBuf)) s = .next { s with
        td := { s.td with frame := f, nibIdx := s.td.nibIdx + 1, nibBuf := 0, fill := 0 } } ∧
      (∀ k, k ≠ s.td.nibIdx / 2 → f.byte k = s.td.frame.byte k) ∧
      (s.td.nibIdx % 2 = 0 → (f.byte (s.td.nibIdx / 2)).extractLsb' 4 4 = s.td.nibBuf ∧
        (f.byte (s.td.nibIdx / 2)).extractLsb' 0 4 = (s.td.frame.byte (s.td.nibIdx / 2)).extractLsb' 0 4) ∧
      (s.td.nibIdx % 2 = 1 → (f.byte (s.td.nibIdx / 2)).extractLsb' 0 4 = s.td.nibBuf ∧
        (f.byte (s.td.nibIdx / 2)).extractLsb' 4 4 = (s.td.frame.byte (s.td.nibIdx / 2)).extractLsb' 4 4)

/-- The fifth bit of group 10: a 1 is a stop-bit fault; a 0 with the right column nibble emits the Token of bytes
0 to 4, with a wrong one a column-parity fault; in every case TD is in its reset state (R174, R176, R177, R178). -/
def Obligations.LastGroupEmitsTokenOrFault : Prop :=
  ∀ (s : State) (b : Bool), s.Configured → s.td.mode = .data → s.td.fill = 4 → s.td.nibIdx = 10 → s.td.frame.b5 = 0 →
    exec (.tdBit b) s = .next { s with
      td := { mode := .preamble, onesCount := 0, nibBuf := 0, fill := 0, nibIdx := 0, frame := ⟨0, 0, 0, 0, 0, 0⟩ }
      trace := s.trace ++ [
        if b = true then .framingFault .stopBit 10
        else if nibbleXor s.td.frame.b0 ^^^ nibbleXor s.td.frame.b1 ^^^ nibbleXor s.td.frame.b2 ^^^ nibbleXor s.td.frame.b3
            ^^^ nibbleXor s.td.frame.b4 = s.td.nibBuf then
          .token s.td.frame.b0 (s.td.frame.b1 ++ s.td.frame.b2 ++ s.td.frame.b3 ++ s.td.frame.b4)
        else .framingFault .columnParity 10] }

/-- The bits of the words that `EE.GENERATE` computes, fed to TD from its reset state in the order `f[0]` to
`f[63]`, emit exactly one output, the Token of the same ID and token, and leave TD in its reset state (R199 (a)). -/
def Obligations.EncodedImageDecodesToItsToken : Prop :=
  ∀ (s : State) (id : Byte) (token : Word32), s.Configured → s.td = TDState.reset →
    runInstrs ((lsbFirst (epromW1 id token ++ epromW0 id token)).map .tdBit) s =
      .next { s with trace := s.trace ++ [.token id token] }

/-- Flipping one bit of a valid frame behind its preamble rejects it at the group of the bit: a data or parity bit
of group `j` gives a row-parity fault at that group's fifth bit, a column bit a column-parity fault and the stop
bit a stop-bit fault at the last bit; no Token is emitted and TD is in its reset state (R182). -/
def Obligations.OneFlippedBitIsRejected : Prop :=
  ∀ (s : State) (id : Byte) (token : Word32), s.Configured → s.td = TDState.reset →
    (∀ j < 10, ∀ k < 5,
      runInstrs (((flipBit (validFrame id token) (9 + 5 * j + k)).take (14 + 5 * j)).map .tdBit) s =
        .next { s with trace := s.trace ++ [.framingFault .rowParity j] }) ∧
    (∀ k < 4, runInstrs ((flipBit (validFrame id token) (59 + k)).map .tdBit) s =
      .next { s with trace := s.trace ++ [.framingFault .columnParity 10] }) ∧
    runInstrs ((flipBit (validFrame id token) 63).map .tdBit) s =
      .next { s with trace := s.trace ++ [.framingFault .stopBit 10] }

/-- A constant stream of 1 bits from TD's reset state faults on row 0 every 14 bits; a constant stream of 0 bits
emits nothing and changes nothing (R181). -/
def Obligations.ConstantStreamsNeverDecode : Prop :=
  ∀ (s : State) (n : Nat), s.Configured → s.td = TDState.reset →
    runInstrs (List.replicate (14 * n) (.tdBit true)) s =
      .next { s with trace := s.trace ++ List.replicate n (.framingFault .rowParity 0) } ∧
    runInstrs (List.replicate n (.tdBit false)) s = .next s

/-- A whole frame on the air is its 64 bits, one `TD.BIT` after the other (R86); that the row is its bits is the model's
choice (`notes/assumptions/1.md`). -/
def Obligations.FrameRowFeedsItsBits : Prop :=
  ∀ (s : State) (id : Byte) (token : Word32) (rows : BitVec 10) (column : Nibble), s.Configured →
    ∃ t, exec (.em4100Frame id token rows column) s = .next t ∧
      runInstrs ((airFrame id token rows column).map .tdBit) s = .next t

/-! ## Token Encoder -/

/-- `EE.GENERATE` puts out `W0` and `W1`, which hold bit for bit the valid frame of its arguments in air order,
and changes nothing else (R86, R87, R190, R198). -/
def Obligations.GenerateProducesTheFrame : Prop :=
  ∀ (s : State) (id : Byte) (token : Word32),
    exec (.eeGenerate id token) s = .next { s with
      trace := s.trace ++ [.epromW0 (epromW0 id token), .epromW1 (epromW1 id token)] } ∧
    lsbFirst (epromW0 id token) ++ lsbFirst (epromW1 id token) = validFrame id token

/-- The tables of rules R88 and R89, and the three laws of `rev4`. -/
def Obligations.ReversalAndParityTables : Prop :=
  (List.range 16).map (fun n => (rev4 (BitVec.ofNat 4 n)).toNat) = [0, 8, 4, 12, 2, 10, 6, 14, 1, 9, 5, 13, 3, 11, 7, 15] ∧
  (List.range 16).map (fun n => (parity4 (BitVec.ofNat 4 n)).toNat) = [0, 1, 1, 0, 1, 0, 0, 1, 1, 0, 0, 1, 0, 1, 1, 0] ∧
  (∀ a b : Nibble, rev4 (rev4 a) = a ∧ parity4 (rev4 a) = parity4 a ∧ rev4 (a ^^^ b) = rev4 a ^^^ rev4 b)

/-- The words put out for the formats `EPROM.W0` and `EPROM.W1` hold each field at its place (R87); that the rows put
their word out is the model's choice (`notes/assumptions/1.md`). -/
def Obligations.EpromRowsPutOutTheirWords : Prop :=
  (∀ (s : State) (e : BitVec 3) (d c b a : Nibble) (p3 p2 p1 p0 : Bool), ∃ w : Word32,
    exec (.epromW0 e p3 d p2 c p1 b p0 a) s = .next { s with trace := s.trace ++ [.epromW0 w] } ∧
    w.extractLsb' 29 3 = e ∧ w.getLsbD 28 = p3 ∧ w.extractLsb' 24 4 = d ∧ w.getLsbD 23 = p2 ∧ w.extractLsb' 19 4 = c ∧
    w.getLsbD 18 = p1 ∧ w.extractLsb' 14 4 = b ∧ w.getLsbD 13 = p0 ∧ w.extractLsb' 9 4 = a ∧ w.extractLsb' 0 9 = 0x1FF) ∧
  (∀ (s : State) (q n9 n8 n7 n6 n5 : Nibble) (p9 p8 p7 p6 p5 p4 e : Bool), ∃ w : Word32,
    exec (.epromW1 q p9 n9 p8 n8 p7 n7 p6 n6 p5 n5 p4 e) s = .next { s with trace := s.trace ++ [.epromW1 w] } ∧
    w.getLsbD 31 = false ∧ w.extractLsb' 27 4 = q ∧ w.getLsbD 26 = p9 ∧ w.extractLsb' 22 4 = n9 ∧ w.getLsbD 21 = p8 ∧
    w.extractLsb' 17 4 = n8 ∧ w.getLsbD 16 = p7 ∧ w.extractLsb' 12 4 = n7 ∧ w.getLsbD 11 = p6 ∧
    w.extractLsb' 7 4 = n6 ∧ w.getLsbD 6 = p5 ∧ w.extractLsb' 2 4 = n5 ∧ w.getLsbD 1 = p4 ∧ w.getLsbD 0 = e)

/-! ## Tag-Programming Encoder -/

/-- The command frame in air order: opcode 1 and page, the password MSB-first in the long form only, the lock
bit, the data word LSB-first, the block address MSB-first; 38 or 70 bits (R90 to R95, R104). -/
def Obligations.CommandFrameLayout : Prop :=
  (∀ (page lock : Bool) (dataWord : Word32) (block : BitVec 3),
    (commandBits page none lock dataWord block).length = 38 ∧
    (commandBits page none lock dataWord block).take 3 = [true, page, lock] ∧
    (∀ k < 32, (commandBits page none lock dataWord block)[3 + k]? = some (dataWord.getLsbD k)) ∧
    (commandBits page none lock dataWord block).drop 35 = [block.getLsbD 2, block.getLsbD 1, block.getLsbD 0]) ∧
  (∀ (page lock : Bool) (password dataWord : Word32) (block : BitVec 3),
    (commandBits page (some password) lock dataWord block).length = 70 ∧
    (commandBits page (some password) lock dataWord block).take 2 = [true, page] ∧
    (∀ k < 32, (commandBits page (some password) lock dataWord block)[2 + k]? = some (password.getLsbD (31 - k))) ∧
    (commandBits page (some password) lock dataWord block)[34]? = some lock ∧
    (∀ k < 32, (commandBits page (some password) lock dataWord block)[35 + k]? = some (dataWord.getLsbD k)) ∧
    (commandBits page (some password) lock dataWord block).drop 67 = [block.getLsbD 2, block.getLsbD 1, block.getLsbD 0])

/-- The train of a command frame: a Low start gap, then for each bit a High data pulse of `T_ONE` or `T_ZERO` and
a Low write gap; `1 + 2n` Samples (R101, R213). -/
def Obligations.TrainHasOnePulseAndOneGapPerBit : Prop :=
  ∀ (w : WriteConfig) (bits : List Bool),
    (trainOf w bits).length = 1 + 2 * bits.length ∧ (trainOf w bits)[0]? = some ⟨w.tStartGap, .low⟩ ∧
    ∀ k b, bits[k]? = some b →
      (trainOf w bits)[1 + 2 * k]? = some ⟨if b = true then w.tOne else w.tZero, .high⟩ ∧
      (trainOf w bits)[2 + 2 * k]? = some ⟨w.tWriteGap, .low⟩

/-- `TE.ENCODE_BLOCK` and the two command-frame rows put out the train of their command frame and change nothing
else, when the durations fit and the train fits the device (R205, R222, R224). That a command-frame row stands for the
command that sends it is the model's choice (`notes/assumptions/1.md`). -/
def Obligations.BlockCommandsPutOutTheirTrain : Prop :=
  ∀ (s : State) (page : Bool) (block : BitVec 3) (lock : Bool) (password dataWord : Word32) (bits : List Bool),
    s.WriteReady → distinctDurations (trainOf s.cfg.write bits) ≤ s.cfg.write.pulseVecSize →
    (trainOf s.cfg.write bits).length ≤ s.cfg.write.sampleVecSize →
    (bits = commandBits page none lock dataWord block →
      exec (.teEncodeBlock page block lock false password dataWord) s =
        .next { s with trace := s.trace ++ [.train (trainOf s.cfg.write bits)] } ∧
      exec (.t5557CmdShort page lock dataWord block) s =
        .next { s with trace := s.trace ++ [.train (trainOf s.cfg.write bits)] }) ∧
    (bits = commandBits page (some password) lock dataWord block →
      exec (.teEncodeBlock page block lock true password dataWord) s =
        .next { s with trace := s.trace ++ [.train (trainOf s.cfg.write bits)] } ∧
      exec (.t5557CmdLong page password lock dataWord block) s =
        .next { s with trace := s.trace ++ [.train (trainOf s.cfg.write bits)] })

/-- The capacity check of a finished train: more distinct durations than the pulse vector holds is
`TooManyPulses`, tested first; then more Samples than the sample vector holds is `TooManySamples`; otherwise the
train goes to the sink. Nothing else changes (R217, R218, R254). That the row `TRAIN` is this check is the model's
choice (`notes/assumptions/1.md`). -/
def Obligations.TrainPassesTheCapacityCheck : Prop :=
  ∀ (s : State) (l : List Sample), s.WriteReady →
    exec (.train l) s = .next { s with trace := s.trace ++ [
      if s.cfg.write.pulseVecSize < (l.map Sample.dur).toFinset.card then
        .commandFault (.tooManyPulses (l.map Sample.dur).toFinset.card)
      else if s.cfg.write.sampleVecSize < l.length then .commandFault (.tooManySamples l.length)
      else .train l] }

/-- A command whose train exceeds a capacity answers with the fault and no train, and changes nothing else (R217,
R254, R259): `TE.ENCODE_BLOCK`, the two command-frame rows, `TE.ENCODE_PARAMS`. What the capacities are compared with
is the spec's decision D25; that a command-frame row stands for the command that sends it is the model's choice
(`notes/assumptions/1.md`). -/
def Obligations.CapacityFaultReplacesTheTrain : Prop :=
  ∀ (s : State) (page : Bool) (block : BitVec 3) (lock : Bool) (password dataWord : Word32) (p : ParamsPort)
    (bits : List Bool) (f : CommandFault), s.WriteReady →
    capacityFault s.cfg.write (trainOf s.cfg.write bits) = some f →
    (bits = commandBits page none lock dataWord block →
      exec (.teEncodeBlock page block lock false password dataWord) s = .next { s with trace := s.trace ++ [.commandFault f] } ∧
      exec (.t5557CmdShort page lock dataWord block) s = .next { s with trace := s.trace ++ [.commandFault f] }) ∧
    (bits = commandBits page (some password) lock dataWord block →
      exec (.teEncodeBlock page block lock true password dataWord) s = .next { s with trace := s.trace ++ [.commandFault f] } ∧
      exec (.t5557CmdLong page password lock dataWord block) s = .next { s with trace := s.trace ++ [.commandFault f] }) ∧
    (∀ word, p.word? = some word →
      (bits = commandBits false none p.lock word 0 →
        exec (.teEncodeParams p false password) s = .next { s with trace := s.trace ++ [.commandFault f] }) ∧
      (bits = commandBits false (some password) p.lock word 0 →
        exec (.teEncodeParams p true password) s = .next { s with trace := s.trace ++ [.commandFault f] }))

/-- Four pulse entries and 141 sample entries make capacity faults impossible: every block command then returns
its train, of 77 or 141 Samples with at most four distinct durations (R221). -/
def Obligations.FourPulsesAndALongTrainAlwaysFit : Prop :=
  ∀ (s : State) (page : Bool) (block : BitVec 3) (lock passwordSend : Bool) (password dataWord : Word32) (l : List Sample),
    s.WriteReady → 4 ≤ s.cfg.write.pulseVecSize → 141 ≤ s.cfg.write.sampleVecSize →
    l = trainOf s.cfg.write (commandBits page (if passwordSend then some password else none) lock dataWord block) →
    exec (.teEncodeBlock page block lock passwordSend password dataWord) s =
        .next { s with trace := s.trace ++ [.train l] } ∧
      l.length = (if passwordSend then 141 else 77) ∧ distinctDurations l ≤ 4

/-- Without `passwordSend` the password argument has no effect (R209). -/
def Obligations.UnsentPasswordHasNoEffect : Prop :=
  ∀ (s : State) (page : Bool) (block : BitVec 3) (lock : Bool) (a b dataWord : Word32) (params : ParamsPort),
    exec (.teEncodeBlock page block lock false a dataWord) s = exec (.teEncodeBlock page block lock false b dataWord) s ∧
    exec (.teEncodeParams params false a) s = exec (.teEncodeParams params false b) s

/-- The configuration word holds each field at its place and zero in bits 27:21, 17, 8 and 2:1 (R96, R214). -/
def Obligations.ConfigurationWordFields : Prop :=
  ∀ (masterKey : BitVec 4) (rate : DataRate) (modulation : Modulation) (psk : PskSubcarrier) (aor : Bool)
    (maxBlock : BitVec 3) (pw st por : Bool) (w : Word32),
    w = configWord masterKey rate modulation psk aor maxBlock pw st por →
    w.extractLsb' 28 4 = masterKey ∧ w.extractLsb' 21 7 = 0 ∧ w.extractLsb' 18 3 = rate.code ∧ w.getLsbD 17 = false ∧
    w.extractLsb' 12 5 = modulation.code ∧ w.extractLsb' 10 2 = psk.code ∧ w.getLsbD 9 = aor ∧ w.getLsbD 8 = false ∧
    w.extractLsb' 5 3 = maxBlock ∧ w.getLsbD 4 = pw ∧ w.getLsbD 3 = st ∧ w.extractLsb' 1 2 = 0 ∧ w.getLsbD 0 = por

/-- `TE.ENCODE_PARAMS` sends its configuration word to page 0 block 0 with the lock of the record, when the
ordinals name values, the durations fit and the train fits the device (R215, R223). What each ordinal names is the table
of rule R110, the spec's decision D26. -/
def Obligations.ParamsCommandSendsTheConfigurationBlock : Prop :=
  (List.range 8).map (fun n => DataRate.ofOrdinal (BitVec.ofNat 3 n)) =
    [.rf8, .rf16, .rf32, .rf40, .rf50, .rf64, .rf100, .rf128] ∧
  (List.range 16).map (fun n => Modulation.ofOrdinal (BitVec.ofNat 4 n)) =
    [some .direct, some .psk1, some .psk2, some .psk3, some .fsk1, some .fsk2, some .fsk1a, some .fsk2a, some .manchester,
     some .biphase, none, none, none, none, none, none] ∧
  (List.range 4).map (fun n => PskSubcarrier.ofOrdinal (BitVec.ofNat 2 n)) = [some .rf2, some .rf4, some .rf8, none] ∧
  ∀ (s : State) (p : ParamsPort) (passwordSend : Bool) (password : Word32) (m : Modulation) (k : PskSubcarrier)
    (bits : List Bool), s.WriteReady →
    Modulation.ofOrdinal p.modulation = some m → PskSubcarrier.ofOrdinal p.pskSubcarrier = some k →
    bits = commandBits false (if passwordSend then some password else none) p.lock
      (configWord p.masterKey (DataRate.ofOrdinal p.dataRate) m k p.answerOnRequest p.maxBlock p.password
        p.sequenceTerminator p.powerOnResetDelay) 0 →
    distinctDurations (trainOf s.cfg.write bits) ≤ s.cfg.write.pulseVecSize →
    (trainOf s.cfg.write bits).length ≤ s.cfg.write.sampleVecSize →
    exec (.teEncodeParams p passwordSend password) s =
      .next { s with trace := s.trace ++ [.train (trainOf s.cfg.write bits)] }

/-- An ordinal that names no value, a modulation of 10 to 15 or a PSK subcarrier of 3, is answered with
`InvalidParameter` and no train, and changes nothing else (R219, R256). -/
def Obligations.UnnamedOrdinalIsAnsweredWithInvalidParameter : Prop :=
  ∀ (s : State) (p : ParamsPort) (passwordSend : Bool) (password : Word32), s.WriteReady →
    (10 ≤ p.modulation.toNat ∨ p.pskSubcarrier = 3) →
    exec (.teEncodeParams p passwordSend password) s = .next { s with trace := s.trace ++ [.commandFault .invalidParameter] }

/-- `TE.ENCODE_BLOCK`, `TE.ENCODE_PARAMS`, the two command-frame rows and `TRAIN` under a duration parameter that does
not fit `DUR_W` bits are refused, and under a `DUR_W` that `RESET` has not sampled too (R296, R285, R39; that they are
refused command by command is the model's choice, `notes/assumptions/8.md` and `6.md`, and so is the reading of the three
rows, `1.md`). -/
def Obligations.WideDurationParameterIsRefused : Prop :=
  ∀ (s : State) (i : Instr),
    ((∃ page block lock pws password dataWord, i = .teEncodeBlock page block lock pws password dataWord) ∨
      (∃ params pws password, i = .teEncodeParams params pws password) ∨
      (∃ page lock dataWord block, i = .t5557CmdShort page lock dataWord block) ∨
      (∃ page password lock dataWord block, i = .t5557CmdLong page password lock dataWord block) ∨
      (∃ l, i = .train l)) →
    (s.cfg.read.durW = s.latched.durW → durationsFit s.cfg = false → exec i s = .refused .durationTooWide) ∧
    (s.cfg.read.durW ≠ s.latched.durW → exec i s = .refused .configurationChanged)

/-- Under the tag's write timing a train determines the command frame it carries (R102, R206, R296). -/
def Obligations.NominalTrainDeterminesItsBits : Prop :=
  ∀ (w : WriteConfig) (a b : List Bool), nominalTiming w → trainOf w a = trainOf w b → a = b

/-- Read-path steps and write-path commands commute: where they complete in one order they complete in the other, reach
the same CORE state, and put out the same events for each (R13, R74). After a `RESET` the other order is asked about only
where `DUR_W` had not been changed without one (R285). -/
def Obligations.ReadAndWritePathsCommute : Prop :=
  ∀ (r w : Instr) (s t u : State), isReadPath r = true → isWritePath w = true →
    (exec w s = .next t → exec r t = .next u →
      ∃ t' u', exec r s = .next t' ∧ exec w t' = .next u' ∧ u'.core = u.core ∧
        newEvents s t' = newEvents t u ∧ newEvents t' u' = newEvents s t) ∧
    ((r = .reset → s.cfg.read.durW = s.latched.durW) → exec r s = .next t → exec w t = .next u →
      ∃ t' u', exec w s = .next t' ∧ exec r t' = .next u' ∧ u'.core = u.core ∧
        newEvents s t' = newEvents t u ∧ newEvents t' u' = newEvents s t)

/-! ## Reset -/

/-- `RESET` samples the read-path configuration and gives every element of CS, of the configured decoder and of TD
its reset value; nothing is emitted and nothing else changes (R45, R281). -/
def Obligations.ResetGivesEveryElementItsResetValue : Prop :=
  ∀ s : State, exec .reset s = .next { s with
    latched := s.cfg.read
    cs := {
      divider := s.cfg.read.initDivider
      hasSync := false
      shortRange := s.cfg.read.initDivider.shortRange
      longRange := s.cfg.read.initDivider.longRange
      pulseCount := 0
      errorCount := 0
      hiCount := 0
      loCount := 0 }
    line :=
      if s.cfg.read.lineCode = .manchester then
        .manchester { lastOutput := s.cfg.read.mdResetOutput, timerRunning := false }
      else .biphase { lastWasShort := false }
    td := { mode := .preamble, onesCount := 0, nibBuf := 0, fill := 0, nibIdx := 0, frame := ⟨0, 0, 0, 0, 0, 0⟩ } }

/-- After `RESET` the CORE state depends on the configuration alone, and a second `RESET` changes nothing (R281, R301). -/
def Obligations.ResetForgetsEverythingButTheConfiguration : Prop :=
  ∀ s s' t t' : State, s.cfg = s'.cfg → exec .reset s = .next t → exec .reset s' = .next t' →
    t.core = t'.core ∧ exec .reset t = .next t

/-! ## Output events and codes -/

/-- The output-event rows put their event out and change nothing else: SyncAcquired reaches no stage (R162), a
framing fault on the log "does nothing else" (R252). That such a row is its event alone is the model's choice
(`notes/assumptions/1.md`). -/
def Obligations.OutputEventRowsOnlyAppear : Prop :=
  ∀ (s : State) (id : Byte) (data : Word32) (n : BitVec 4),
    exec .syncAcq16 s = .next { s with trace := s.trace ++ [.acquired .d16] } ∧
    exec .syncAcq32 s = .next { s with trace := s.trace ++ [.acquired .d32] } ∧
    exec .syncAcq64 s = .next { s with trace := s.trace ++ [.acquired .d64] } ∧
    exec (.token id data) s = .next { s with trace := s.trace ++ [.token id data] } ∧
    exec (.faultRow n) s = .next { s with trace := s.trace ++ [.framingFault .rowParity n.toNat] } ∧
    exec .faultStop s = .next { s with trace := s.trace ++ [.framingFault .stopBit 10] } ∧
    exec .faultCol s = .next { s with trace := s.trace ++ [.framingFault .columnParity 10] }

/-- A SyncLost on the sync port appears at the output and resets the configured decoder; CS and TD keep their state
(R69, R83, R155, R158, R180). That the row is the event delivered is the model's choice (`notes/assumptions/1.md`). -/
def Obligations.SyncLostResetsTheDecoderAndNotTD : Prop :=
  ∀ s : State, s.Configured →
    exec .syncLost s = .next { s with line := lineAfterLoss s.latched s.line, trace := s.trace ++ [.lost] }

/-- The data-rate rows put out the codes of rule R97, the modulation rows those of rule R98, the PSK-subcarrier rows
those of rule R99, the opcode rows those of rule R91, the configuration-word row the word of its fields; that such a row
puts its value out and changes nothing is the model's choice (`notes/assumptions/1.md`). -/
def Obligations.ConfigurationCodesAndWord : Prop :=
  ∀ (s : State) (masterKey : BitVec 4) (rate : DataRate) (modulation : Modulation) (psk : PskSubcarrier) (aor : Bool)
    (maxBlock : BitVec 3) (pw st por : Bool),
    exec (.t5557ConfigWord masterKey rate modulation psk aor maxBlock pw st por) s = .next { s with
      trace := s.trace ++ [.configWord (configWord masterKey rate modulation psk aor maxBlock pw st por)] } ∧
    exec .pskRf2 s = .next { s with trace := s.trace ++ [.pskCode 0] } ∧
    exec .pskRf4 s = .next { s with trace := s.trace ++ [.pskCode 1] } ∧
    exec .pskRf8 s = .next { s with trace := s.trace ++ [.pskCode 2] } ∧
    exec .t5557OpcodeWritePage0 s = .next { s with trace := s.trace ++ [.opcode [true, false]] } ∧
    exec .t5557OpcodeWritePage1 s = .next { s with trace := s.trace ++ [.opcode [true, true]] } ∧
    exec .dataRateRf8 s = .next { s with trace := s.trace ++ [.rateCode 0] } ∧
    exec .dataRateRf16 s = .next { s with trace := s.trace ++ [.rateCode 1] } ∧
    exec .dataRateRf32 s = .next { s with trace := s.trace ++ [.rateCode 2] } ∧
    exec .dataRateRf40 s = .next { s with trace := s.trace ++ [.rateCode 3] } ∧
    exec .dataRateRf50 s = .next { s with trace := s.trace ++ [.rateCode 4] } ∧
    exec .dataRateRf64 s = .next { s with trace := s.trace ++ [.rateCode 5] } ∧
    exec .dataRateRf100 s = .next { s with trace := s.trace ++ [.rateCode 6] } ∧
    exec .dataRateRf128 s = .next { s with trace := s.trace ++ [.rateCode 7] } ∧
    exec .modulationDirect s = .next { s with trace := s.trace ++ [.modulationCode 0] } ∧
    exec .modulationPsk1 s = .next { s with trace := s.trace ++ [.modulationCode 1] } ∧
    exec .modulationPsk2 s = .next { s with trace := s.trace ++ [.modulationCode 2] } ∧
    exec .modulationPsk3 s = .next { s with trace := s.trace ++ [.modulationCode 3] } ∧
    exec .modulationFsk1 s = .next { s with trace := s.trace ++ [.modulationCode 4] } ∧
    exec .modulationFsk2 s = .next { s with trace := s.trace ++ [.modulationCode 5] } ∧
    exec .modulationFsk1a s = .next { s with trace := s.trace ++ [.modulationCode 6] } ∧
    exec .modulationFsk2a s = .next { s with trace := s.trace ++ [.modulationCode 7] } ∧
    exec .modulationManchester s = .next { s with trace := s.trace ++ [.modulationCode 8] } ∧
    exec .modulationBiphase s = .next { s with trace := s.trace ++ [.modulationCode 16] }

/-- The fault-code rows put out the cause codes of rule R251; that a code row puts its code out and changes nothing is
the model's choice (`notes/assumptions/1.md`). -/
def Obligations.FaultCauseCodes : Prop :=
  ∀ s : State,
    exec .faultcodeRowParity s = .next { s with trace := s.trace ++ [.faultCode 1] } ∧
    exec .faultcodeStopBit s = .next { s with trace := s.trace ++ [.faultCode 2] } ∧
    exec .faultcodeColumnParity s = .next { s with trace := s.trace ++ [.faultCode 3] } ∧
    exec .faultcodeTooManyPulses s = .next { s with trace := s.trace ++ [.faultCode 4] } ∧
    exec .faultcodeTooManySamples s = .next { s with trace := s.trace ++ [.faultCode 5] } ∧
    exec .faultcodeInvalidParameter s = .next { s with trace := s.trace ++ [.faultCode 6] }

/-! ## The reader device -/

/-- Every wire command completes, leaves the whole of CORE and its configuration as it was, and answers in the form
of the table of rule R233: an RC byte of rule R236 and so many bytes, or nothing, or bytes the table does not
count; the status byte is one of rule R235. The values are free (`notes/assumptions/9.md`), and the statement holds for
any of them. COIL_ENABLE and TRANSFER_STATUS complete with every Value and every Index; the coil is free after a Value
other than 0 and 1. The model's own are that the value 1 switches the coil on (`16.md`, DEDUCED), that the table's form
of answer holds for a Value or an Index outside it (`16.md`, `12.md`), the 16 bits of the Value (`12.md`, PRESUMED) and
the zeros for a part the table ignores (`12.md`). -/
def Obligations.WireCommandsAnswerAndLeaveCoreUnchanged : Prop :=
  ∀ (s : State) (flags prescaler : Byte) (timeout value index : BitVec 16),
    (∃ d rc, exec .wireNop s = .next { s with trace := s.trace ++ [.wire 0 0 0 [WireRc.code rc]], draws := d }) ∧
    (∃ d rc x y, exec .wireGetVersion s =
      .next { s with trace := s.trace ++ [.wire 1 0 0 [WireRc.code rc, x, y]], draws := d }) ∧
    (∃ d coil, exec .wireReset s = .next { s with trace := s.trace ++ [.wire 2 0 0 []], draws := d, coil := coil }) ∧
    (∃ d l coil, exec (.wireCoilEnable value) s =
        .next { s with trace := s.trace ++ [.wire 3 0 value l], draws := d, coil := coil } ∧
      (value = 0 → coil = false) ∧ (value = 1 → coil = true)) ∧
    (∃ d l, exec .wirePulseVectorRead s = .next { s with trace := s.trace ++ [.wire 4 0 0 l], draws := d }) ∧
    (∃ d l, exec .wirePulseVectorWrite s = .next { s with trace := s.trace ++ [.wire 5 0 0 l], draws := d }) ∧
    (∃ d l, exec .wireSampleVectorRead s = .next { s with trace := s.trace ++ [.wire 6 0 0 l], draws := d }) ∧
    (∃ d l, exec .wireSampleVectorWrite s = .next { s with trace := s.trace ++ [.wire 7 0 0 l], draws := d }) ∧
    (∃ d rc a b sh sl ph pl, exec .wireGetBufferSize s =
      .next { s with trace := s.trace ++ [.wire 8 0 0 [WireRc.code rc, a, b, sh, sl, ph, pl]], draws := d }) ∧
    (∃ d rc x, exec (.wireTransferStart flags prescaler timeout) s =
      .next { s with trace := s.trace ++ [.wire 9 (flags ++ prescaler) timeout [WireRc.code rc, x]], draws := d }) ∧
    (∃ d rc st h l, exec (.wireTransferStatus index) s = .next { s with
      trace := s.trace ++ [.wire 10 index 0 [WireRc.code rc, WireStatus.code st, h, l]], draws := d })

/-- The flag, status and RC rows put out the masks and codes of rules R234, R235 and R236; that such a row puts its
value out and changes nothing is the model's choice (`notes/assumptions/1.md`). -/
def Obligations.WireMasksAndCodes : Prop :=
  ∀ s : State,
    exec .wireFlagFirstOnStart s = .next { s with trace := s.trace ++ [.wireFlag 0x8000] } ∧
    exec .wireFlagStartOnEdge s = .next { s with trace := s.trace ++ [.wireFlag 0x4000] } ∧
    exec .wireFlagFallingEdge s = .next { s with trace := s.trace ++ [.wireFlag 0x2000] } ∧
    exec .wireFlagTxMode s = .next { s with trace := s.trace ++ [.wireFlag 0x1000] } ∧
    exec .wireStatusUnknown s = .next { s with trace := s.trace ++ [.wireStatus 0] } ∧
    exec .wireStatusOk s = .next { s with trace := s.trace ++ [.wireStatus 1] } ∧
    exec .wireStatusTimeout s = .next { s with trace := s.trace ++ [.wireStatus 2] } ∧
    exec .wireStatusInProgress s = .next { s with trace := s.trace ++ [.wireStatus 3] } ∧
    exec .wireRcOk s = .next { s with trace := s.trace ++ [.wireRc 0] } ∧
    exec .wireRcInvalidCmd s = .next { s with trace := s.trace ++ [.wireRc 1] } ∧
    exec .wireRcBusy s = .next { s with trace := s.trace ++ [.wireRc 2] } ∧
    exec .wireRcInvalidVal s = .next { s with trace := s.trace ++ [.wireRc 3] } ∧
    exec .wireRcTimeout s = .next { s with trace := s.trace ++ [.wireRc 4] }
end

