-- ==== Sys2Proof/Laws/Decode.lean ====
section
/-! SUPPORT. The lanes of port words: what an encoded operand reads back as, and what an accepted lane says. -/

namespace Sys2Proof

@[simp] theorem laneBits_toNat {w : Nat} (v : BitVec w) : laneBits w v.toNat = .ok v := by
  simp [laneBits, v.isLt]

theorem laneBits_eq_ok {w n : Nat} {v : BitVec w} : laneBits w n = .ok v ↔ n = v.toNat := by
  constructor
  · intro h
    unfold laneBits at h
    split at h
    · rename_i hn
      cases h
      simp [Nat.mod_eq_of_lt hn]
    · cases h
  · rintro rfl
    simp

@[simp] theorem laneBool_boolLane (b : Bool) : laneBool (boolLane b) = .ok b := by cases b <;> rfl

@[simp] theorem Level.ofBit_bit (l : Level) : Level.ofBit l.bit = l := by cases l <;> rfl
@[simp] theorem Level.bit_ofBit (b : Bool) : (Level.ofBit b).bit = b := by cases b <;> rfl

/-- A Sample that fits its port is read back. -/
theorem decodeSample_encodeSample {durW : Nat} {s : Sample} (h : s.dur < 2 ^ durW) :
    decodeSample durW (encodeSample durW s) = .ok s := by
  obtain ⟨dur, level⟩ := s
  have hp : 2 ^ (durW + 1) = 2 * 2 ^ durW := by ring
  simp only at h
  cases level
  · simp [decodeSample, encodeSample, boolLane, Level.bit, Level.ofBit, hp, Nat.mod_eq_of_lt h, Nat.not_le.mpr h]
    omega
  · simp [decodeSample, encodeSample, boolLane, Level.bit, Level.ofBit, hp, Nat.mod_eq_of_lt h]
    omega

/-- An accepted Sample word carries a duration that fits. -/
theorem decodeSample_fits {durW n : Nat} {s : Sample} (h : decodeSample durW n = .ok s) : s.dur < 2 ^ durW := by
  unfold decodeSample at h
  split at h
  · cases h
    exact Nat.mod_lt _ (Nat.two_pow_pos durW)
  · cases h

end Sys2Proof
end

