-- ==== Sys2Proof/Laws/State.lean ====
section
/-! SUPPORT. What each plain update of the state does to each field: one lemma per field, true by `rfl`, so
that no later proof unfolds a record update. -/

namespace Sys2Proof.Machine

/-! ## `emit` -/

@[simp] theorem emit_cfg (e : Event) (s : State) : (emit e s).cfg = s.cfg := rfl
@[simp] theorem emit_latched (e : Event) (s : State) : (emit e s).latched = s.latched := rfl
@[simp] theorem emit_cs (e : Event) (s : State) : (emit e s).cs = s.cs := rfl
@[simp] theorem emit_line (e : Event) (s : State) : (emit e s).line = s.line := rfl
@[simp] theorem emit_td (e : Event) (s : State) : (emit e s).td = s.td := rfl
@[simp] theorem emit_inbox (e : Event) (s : State) : (emit e s).inbox = s.inbox := rfl
@[simp] theorem emit_trace (e : Event) (s : State) : (emit e s).trace = s.trace ++ [e] := rfl
@[simp] theorem emit_coil (e : Event) (s : State) : (emit e s).coil = s.coil := rfl
@[simp] theorem emit_draws (e : Event) (s : State) : (emit e s).draws = s.draws := rfl

/-! ## `tdToPreamble` and `takeFramingFault` -/

@[simp] theorem tdToPreamble_cfg (s : State) : (tdToPreamble s).cfg = s.cfg := rfl
@[simp] theorem tdToPreamble_latched (s : State) : (tdToPreamble s).latched = s.latched := rfl
@[simp] theorem tdToPreamble_cs (s : State) : (tdToPreamble s).cs = s.cs := rfl
@[simp] theorem tdToPreamble_line (s : State) : (tdToPreamble s).line = s.line := rfl
@[simp] theorem tdToPreamble_td (s : State) : (tdToPreamble s).td = TDState.reset := rfl
@[simp] theorem tdToPreamble_inbox (s : State) : (tdToPreamble s).inbox = s.inbox := rfl
@[simp] theorem tdToPreamble_trace (s : State) : (tdToPreamble s).trace = s.trace := rfl
@[simp] theorem tdToPreamble_coil (s : State) : (tdToPreamble s).coil = s.coil := rfl
@[simp] theorem tdToPreamble_draws (s : State) : (tdToPreamble s).draws = s.draws := rfl

@[simp] theorem takeFramingFault_cfg (k : FramingKind) (n : Nat) (s : State) : (takeFramingFault k n s).cfg = s.cfg := rfl
@[simp] theorem takeFramingFault_latched (k : FramingKind) (n : Nat) (s : State) :
    (takeFramingFault k n s).latched = s.latched := rfl
@[simp] theorem takeFramingFault_cs (k : FramingKind) (n : Nat) (s : State) : (takeFramingFault k n s).cs = s.cs := rfl
@[simp] theorem takeFramingFault_line (k : FramingKind) (n : Nat) (s : State) : (takeFramingFault k n s).line = s.line := rfl
@[simp] theorem takeFramingFault_td (k : FramingKind) (n : Nat) (s : State) :
    (takeFramingFault k n s).td = TDState.reset := rfl
@[simp] theorem takeFramingFault_inbox (k : FramingKind) (n : Nat) (s : State) :
    (takeFramingFault k n s).inbox = s.inbox := rfl
@[simp] theorem takeFramingFault_trace (k : FramingKind) (n : Nat) (s : State) :
    (takeFramingFault k n s).trace = s.trace ++ [.framingFault k n] := rfl
@[simp] theorem takeFramingFault_coil (k : FramingKind) (n : Nat) (s : State) : (takeFramingFault k n s).coil = s.coil := rfl
@[simp] theorem takeFramingFault_draws (k : FramingKind) (n : Nat) (s : State) :
    (takeFramingFault k n s).draws = s.draws := rfl

/-! ## `TDState.cleared` -/

@[simp] theorem TDState.cleared_mode (m : TDMode) : (TDState.cleared m).mode = m := rfl
@[simp] theorem TDState.cleared_onesCount (m : TDMode) : (TDState.cleared m).onesCount = 0 := rfl
@[simp] theorem TDState.cleared_nibBuf (m : TDMode) : (TDState.cleared m).nibBuf = 0 := rfl
@[simp] theorem TDState.cleared_fill (m : TDMode) : (TDState.cleared m).fill = 0 := rfl
@[simp] theorem TDState.cleared_nibIdx (m : TDMode) : (TDState.cleared m).nibIdx = 0 := rfl
@[simp] theorem TDState.cleared_frame (m : TDMode) : (TDState.cleared m).frame = Frame.zero := rfl

/-! ## SyncLost in the decoders -/

@[simp] theorem mdSyncLost_cfg (s : State) : (mdSyncLost s).cfg = s.cfg := rfl
@[simp] theorem mdSyncLost_latched (s : State) : (mdSyncLost s).latched = s.latched := rfl
@[simp] theorem mdSyncLost_cs (s : State) : (mdSyncLost s).cs = s.cs := rfl
@[simp] theorem mdSyncLost_line (s : State) :
    (mdSyncLost s).line = .manchester { lastOutput := s.latched.mdResetOutput, timerRunning := false } := rfl
@[simp] theorem mdSyncLost_td (s : State) : (mdSyncLost s).td = s.td := rfl
@[simp] theorem mdSyncLost_inbox (s : State) : (mdSyncLost s).inbox = s.inbox := rfl
@[simp] theorem mdSyncLost_trace (s : State) : (mdSyncLost s).trace = s.trace := rfl
@[simp] theorem mdSyncLost_coil (s : State) : (mdSyncLost s).coil = s.coil := rfl
@[simp] theorem mdSyncLost_draws (s : State) : (mdSyncLost s).draws = s.draws := rfl

@[simp] theorem bdSyncLost_cfg (s : State) : (bdSyncLost s).cfg = s.cfg := rfl
@[simp] theorem bdSyncLost_latched (s : State) : (bdSyncLost s).latched = s.latched := rfl
@[simp] theorem bdSyncLost_cs (s : State) : (bdSyncLost s).cs = s.cs := rfl
@[simp] theorem bdSyncLost_line (s : State) : (bdSyncLost s).line = .biphase { lastWasShort := false } := rfl
@[simp] theorem bdSyncLost_td (s : State) : (bdSyncLost s).td = s.td := rfl
@[simp] theorem bdSyncLost_inbox (s : State) : (bdSyncLost s).inbox = s.inbox := rfl
@[simp] theorem bdSyncLost_trace (s : State) : (bdSyncLost s).trace = s.trace := rfl
@[simp] theorem bdSyncLost_coil (s : State) : (bdSyncLost s).coil = s.coil := rfl
@[simp] theorem bdSyncLost_draws (s : State) : (bdSyncLost s).draws = s.draws := rfl

/-! ## CS -/

@[simp] theorem CSState.clearCounters_divider (c : CSState) : c.clearCounters.divider = c.divider := rfl
@[simp] theorem CSState.clearCounters_hasSync (c : CSState) : c.clearCounters.hasSync = c.hasSync := rfl
@[simp] theorem CSState.clearCounters_shortRange (c : CSState) : c.clearCounters.shortRange = c.shortRange := rfl
@[simp] theorem CSState.clearCounters_longRange (c : CSState) : c.clearCounters.longRange = c.longRange := rfl
@[simp] theorem CSState.clearCounters_pulseCount (c : CSState) : c.clearCounters.pulseCount = 0 := rfl
@[simp] theorem CSState.clearCounters_errorCount (c : CSState) : c.clearCounters.errorCount = 0 := rfl
@[simp] theorem CSState.clearCounters_hiCount (c : CSState) : c.clearCounters.hiCount = 0 := rfl
@[simp] theorem CSState.clearCounters_loCount (c : CSState) : c.clearCounters.loCount = 0 := rfl

@[simp] theorem CSState.rotate_divider (c : CSState) : c.rotate.divider = c.divider.next := rfl
@[simp] theorem CSState.rotate_hasSync (c : CSState) : c.rotate.hasSync = c.hasSync := rfl
@[simp] theorem CSState.rotate_shortRange (c : CSState) : c.rotate.shortRange = c.divider.next.shortRange := rfl
@[simp] theorem CSState.rotate_longRange (c : CSState) : c.rotate.longRange = c.divider.next.longRange := rfl
@[simp] theorem CSState.rotate_pulseCount (c : CSState) : c.rotate.pulseCount = c.pulseCount := rfl
@[simp] theorem CSState.rotate_errorCount (c : CSState) : c.rotate.errorCount = c.errorCount := rfl
@[simp] theorem CSState.rotate_hiCount (c : CSState) : c.rotate.hiCount = c.hiCount := rfl
@[simp] theorem CSState.rotate_loCount (c : CSState) : c.rotate.loCount = c.loCount := rfl

/-! ## `RESET` -/

@[simp] theorem resetCore_cfg (s : State) : (resetCore s).cfg = s.cfg := rfl
@[simp] theorem resetCore_latched (s : State) : (resetCore s).latched = s.cfg.read := rfl
@[simp] theorem resetCore_cs (s : State) : (resetCore s).cs = CSState.reset s.cfg.read.initDivider := rfl
@[simp] theorem resetCore_line (s : State) : (resetCore s).line = LineState.reset s.cfg.read := rfl
@[simp] theorem resetCore_td (s : State) : (resetCore s).td = TDState.reset := rfl
@[simp] theorem resetCore_inbox (s : State) : (resetCore s).inbox = s.inbox := rfl
@[simp] theorem resetCore_trace (s : State) : (resetCore s).trace = s.trace := rfl
@[simp] theorem resetCore_coil (s : State) : (resetCore s).coil = s.coil := rfl
@[simp] theorem resetCore_draws (s : State) : (resetCore s).draws = s.draws := rfl

end Sys2Proof.Machine
end

