-- ==== Sys2Proof/Laws/Ops.lean ====
section
/-! SUPPORT. What each shared operation can do, said once: its frame, the events it appends, and the
conditions under which a guard lets it run. Later proofs cite these and do not unfold the operations. -/

namespace Sys2Proof.Machine

/-- Two states agree on everything but the line decoder, TD and the record. -/
structure SameButDecoders (s t : State) : Prop where
  cfg : t.cfg = s.cfg
  latched : t.latched = s.latched
  cs : t.cs = s.cs
  inbox : t.inbox = s.inbox
  coil : t.coil = s.coil
  draws : t.draws = s.draws

/-! ## Token Decoder -/

/-- Everything `TD.BIT` can do: TD's state changes and at most one output of TD is recorded. -/
theorem tdBit_spec (b : Bool) (s : State) :
    ∃ td l, tdBit b s = { s with td := td, trace := s.trace ++ l } ∧ l.length ≤ 1 ∧ ∀ e ∈ l, e.fromTD = true := by
  unfold tdBit tdPreambleBit tdDataBit tdFifthBit tdFinish tdPack takeFramingFault emitToken tdToPreamble emit
  repeat' split
  all_goals first
    | exact ⟨_, [], by simp; rfl, by simp, by simp⟩
    | exact ⟨_, [_], rfl, by simp, by simp [Event.fromTD]⟩

theorem tdBit_frame (b : Bool) (s : State) : SameButDecoders s (tdBit b s) ∧ (tdBit b s).line = s.line := by
  obtain ⟨td, l, h, -, -⟩ := tdBit_spec b s
  rw [h]
  exact ⟨⟨rfl, rfl, rfl, rfl, rfl, rfl⟩, rfl⟩

/-- What TD becomes depends on TD alone. -/
theorem tdBit_td_congr (b : Bool) {s t : State} (h : s.td = t.td) : (tdBit b s).td = (tdBit b t).td := by
  unfold tdBit tdPreambleBit tdDataBit tdFifthBit tdFinish tdPack takeFramingFault emitToken tdToPreamble emit
  simp only [h]
  repeat' split
  all_goals rfl

/-- Bits one after the other: TD's final state depends on TD alone. -/
theorem tdBits_td_congr (bits : List Bool) {s t : State} (h : s.td = t.td) : (tdBits bits s).td = (tdBits bits t).td := by
  induction bits generalizing s t with
  | nil => exact h
  | cons b rest ih => exact ih (tdBit_td_congr b h)

/-- In `Data` with fewer than four bits collected. -/
theorem tdBit_data {b : Bool} {s : State} (hm : s.td.mode = .data) (hf : s.td.fill < 4) : tdBit b s = tdDataBit b s := by
  simp [tdBit, hm, hf]

/-- In `Data` with four bits collected. -/
theorem tdBit_fifth {b : Bool} {s : State} (hm : s.td.mode = .data) (hf : ¬ s.td.fill < 4) : tdBit b s = tdFifthBit b s := by
  simp [tdBit, hm, hf]

/-- In `Preamble`. -/
theorem tdBit_preamble {b : Bool} {s : State} (hm : s.td.mode = .preamble) : tdBit b s = tdPreambleBit b s := by
  simp [tdBit, hm]

/-! ## Line decoders -/

theorem deliverBit_frame (b : Bool) (s : State) : SameButDecoders s (deliverBit b s) ∧ (deliverBit b s).line = s.line := by
  obtain ⟨⟨a1, a2, a3, a4, a5, a6⟩, a7⟩ := tdBit_frame b (emit (.bit b) s)
  exact ⟨⟨a1, a2, a3, a4, a5, a6⟩, a7⟩

theorem deliverBit_td (b : Bool) (s : State) : (deliverBit b s).td = (tdBit b s).td := tdBit_td_congr b rfl

/-- A delivered bit appends its BitEvent and at most one output of TD. -/
theorem deliverBit_trace (b : Bool) (s : State) :
    ∃ l, (deliverBit b s).trace = s.trace ++ .bit b :: l ∧ l.length ≤ 1 ∧ ∀ e ∈ l, e.fromTD = true := by
  obtain ⟨td, l, h, h1, h2⟩ := tdBit_spec b (emit (.bit b) s)
  exact ⟨l, by simp [deliverBit, h], h1, h2⟩

/-- A line decoder consumes a PulseEvent: the decoder of the same line code remains, and either nothing but its
state changes or a bit is delivered. -/
theorem linePulse_cases (p : PulseEvent) (s : State) :
    ∃ ln : LineState, ln.code = s.line.code ∧
      (linePulse p s = { s with line := ln } ∨ ∃ b, linePulse p s = deliverBit b { s with line := ln }) := by
  rcases hl : s.line with md | bd
  · simp only [linePulse, hl, mdPulse]
    split
    · exact ⟨_, by rfl, .inr ⟨_, rfl⟩⟩
    · split
      · split
        · exact ⟨_, by rfl, .inr ⟨_, rfl⟩⟩
        · exact ⟨_, by rfl, .inl rfl⟩
      · exact ⟨.manchester md, rfl, .inl (by rw [← hl])⟩
  · simp only [linePulse, hl, bdPulse]
    split
    · exact ⟨_, by rfl, .inr ⟨_, rfl⟩⟩
    · split
      · exact ⟨_, by rfl, .inr ⟨_, rfl⟩⟩
      · exact ⟨_, by rfl, .inl rfl⟩

theorem linePulse_frame (p : PulseEvent) (s : State) :
    SameButDecoders s (linePulse p s) ∧ (linePulse p s).line.code = s.line.code := by
  obtain ⟨ln, hc, h | ⟨b, h⟩⟩ := linePulse_cases p s
  · rw [h]
    exact ⟨⟨rfl, rfl, rfl, rfl, rfl, rfl⟩, hc⟩
  · obtain ⟨⟨a1, a2, a3, a4, a5, a6⟩, a7⟩ := deliverBit_frame b { s with line := ln }
    rw [h]
    exact ⟨⟨a1, a2, a3, a4, a5, a6⟩, by rw [a7]; exact hc⟩

/-- What a SyncLost does: it appears, and the configured decoder resets. -/
theorem deliverSyncLost_eq (s : State) :
    deliverSyncLost s = { s with line := lineAfterLoss s.latched s.line, trace := s.trace ++ [.lost] } := by
  rcases hl : s.line with md | bd <;> simp [deliverSyncLost, lineSyncLost, hl, lineAfterLoss, mdSyncLost, bdSyncLost, emit]

/-! ## Carrier Synchronizer -/

/-- While unsynchronized, or on a mismatch, nothing is forwarded. -/
theorem csForward_of_unsync {s : State} (level : Level) (k : PulseClass) (h : s.cs.hasSync = false) :
    csForward level k s = s := by
  simp [csForward, h]

theorem csForward_none (level : Level) (s : State) : csForward level .none s = s := by
  simp [csForward]

/-- While synchronized a match is forwarded with its length. -/
theorem csForward_match {s : State} (level : Level) {k : PulseClass} (h : s.cs.hasSync = true) (hk : k ≠ .none) :
    csForward level k s = deliverPulse { level := level, isLong := decide (k = .long) } s := by
  cases k <;> simp [csForward, h] at hk ⊢

theorem csForward_frame (level : Level) (k : PulseClass) (s : State) : SameButDecoders s (csForward level k s) := by
  have hp : ∀ p, SameButDecoders s (deliverPulse p s) := fun p =>
    let ⟨⟨a1, a2, a3, a4, a5, a6⟩, _⟩ := linePulse_frame p (emit (.pulse p) s)
    ⟨a1, a2, a3, a4, a5, a6⟩
  unfold csForward
  repeat' split
  all_goals first | exact hp _ | exact ⟨rfl, rfl, rfl, rfl, rfl, rfl⟩

/-- The checks after the counting: lost lock, or acquisition and then the window boundary. -/
theorem csChecks_eq (s : State) :
    csChecks s = if 10 ≤ s.cs.errorCount then
        { s with cs := { s.cs.clearCounters with hasSync := false }.rotate
                 line := lineAfterLoss s.latched s.line
                 trace := s.trace ++ [.lost] }
      else csBoundary (csAcquire s) := by
  simp [csChecks, CSState.lockLost, csLoseLock, deliverSyncLost_eq]

theorem csChecks_frame (s : State) :
    (csChecks s).cfg = s.cfg ∧ (csChecks s).latched = s.latched ∧ (csChecks s).inbox = s.inbox ∧
      (csChecks s).coil = s.coil ∧ (csChecks s).draws = s.draws := by
  rw [csChecks_eq]
  unfold csBoundary csAcquire deliverSyncAcquired emit
  repeat' split
  all_goals exact ⟨rfl, rfl, rfl, rfl, rfl⟩

/-- No Sample touches the configuration, the waiting inputs, the coil or the draw counter. -/
theorem csSample_frame (smp : Sample) (s : State) :
    (csSample smp s).cfg = s.cfg ∧ (csSample smp s).latched = s.latched ∧ (csSample smp s).inbox = s.inbox ∧
      (csSample smp s).coil = s.coil ∧ (csSample smp s).draws = s.draws := by
  have h := csForward_frame smp.level (classify s.cs.shortRange s.cs.longRange smp.dur)
    { s with cs := s.cs.count smp.level (classify s.cs.shortRange s.cs.longRange smp.dur) }
  obtain ⟨a1, a2, a3, a4, a5⟩ := csChecks_frame (csForward smp.level (classify s.cs.shortRange s.cs.longRange smp.dur)
    { s with cs := s.cs.count smp.level (classify s.cs.shortRange s.cs.longRange smp.dur) })
  exact ⟨a1.trans h.cfg, a2.trans h.latched, a3.trans h.inbox, a4.trans h.coil, a5.trans h.draws⟩

/-! ## Tag-Programming Encoder -/

/-- A finished train is a capacity fault or goes to the sink. -/
theorem finishTrain_eq (l : List Sample) (s : State) :
    finishTrain l s = emit (match capacityFault s.cfg.write l with | some f => .commandFault f | none => .train l) s := by
  unfold finishTrain raiseCommandFault
  cases capacityFault s.cfg.write l <;> rfl

/-! ## Guards -/

theorem whenConfigured_of {s : State} (k : State → State) (h : s.Configured) : whenConfigured s k = .next (k s) := by
  simp [whenConfigured, h]

theorem whenConfigured_eq_next {s t : State} {k : State → State} :
    whenConfigured s k = .next t ↔ s.Configured ∧ t = k s := by
  by_cases h : s.Configured
  · rw [whenConfigured_of k h]
    exact ⟨fun e => ⟨h, by cases e; rfl⟩, fun e => by rw [e.2]⟩
  · simp [whenConfigured, h]

theorem whenManchester_of {s : State} {md : MDState} (k : MDState → State → State) (h : s.Configured)
    (hl : s.line = .manchester md) : whenManchester s k = .next (k md s) := by
  simp [whenManchester, hl, whenConfigured_of _ h]

theorem whenManchester_eq_next {s t : State} {k : MDState → State → State} :
    whenManchester s k = .next t ↔ ∃ md, s.line = .manchester md ∧ s.Configured ∧ t = k md s := by
  rcases hl : s.line with md | bd
  · simp [whenManchester, hl, whenConfigured_eq_next]
  · simp [whenManchester, hl]

theorem whenBiphase_of {s : State} {bd : BDState} (k : BDState → State → State) (h : s.Configured)
    (hl : s.line = .biphase bd) : whenBiphase s k = .next (k bd s) := by
  simp [whenBiphase, hl, whenConfigured_of _ h]

theorem whenBiphase_eq_next {s t : State} {k : BDState → State → State} :
    whenBiphase s k = .next t ↔ ∃ bd, s.line = .biphase bd ∧ s.Configured ∧ t = k bd s := by
  rcases hl : s.line with md | bd
  · simp [whenBiphase, hl]
  · simp [whenBiphase, hl, whenConfigured_eq_next]

theorem whenDurationsFit_of {s : State} (k : State → State) (h : s.WriteReady) : whenDurationsFit s k = .next (k s) := by
  simp [whenDurationsFit, h.1, h.2]

theorem whenDurationsFit_eq_next {s t : State} {k : State → State} :
    whenDurationsFit s k = .next t ↔ s.WriteReady ∧ t = k s := by
  by_cases h : s.WriteReady
  · rw [whenDurationsFit_of k h]
    exact ⟨fun e => ⟨h, by cases e; rfl⟩, fun e => by rw [e.2]⟩
  · refine ⟨fun e => ?_, fun e => absurd e.1 h⟩
    unfold whenDurationsFit at e
    split at e
    · split at e
      · exact absurd ⟨‹_›, ‹_›⟩ h
      · cases e
    · cases e

/-- The coil after a COIL_ENABLE is known for the two Values of the table only (R233). -/
theorem coilAfter_cases (value : BitVec 16) (draw : Nat) :
    (value = 0 ∧ coilAfter value draw = false) ∨ (value = 1 ∧ coilAfter value draw = true) ∨
      (value ≠ 0 ∧ value ≠ 1 ∧ coilAfter value draw = Config.freeCoil draw) := by
  by_cases h0 : value = 0
  · exact .inl ⟨h0, if_pos h0⟩
  · by_cases h1 : value = 1
    · exact .inr (.inl ⟨h1, (if_neg h0).trans (if_pos h1)⟩)
    · exact .inr (.inr ⟨h0, h1, (if_neg h0).trans (if_neg h1)⟩)

/-- A rejected port word either changes nothing, a SyncAcquired at the configured decoder, or stops. -/
theorem takeUnlisted_next {s t : State} {r : Reject} (h : takeUnlisted r s = .next t) :
    t = s ∧ s.Configured ∧ (r = .mdSyncAcquired ∧ s.line.code = .manchester ∨ r = .bdSyncAcquired ∧ s.line.code = .biphase) := by
  unfold takeUnlisted at h
  split at h
  · obtain ⟨md, hl, hc, ht⟩ := whenManchester_eq_next.mp h
    exact ⟨ht, hc, .inl ⟨rfl, by simp [hl, LineState.code]⟩⟩
  · obtain ⟨bd, hl, hc, ht⟩ := whenBiphase_eq_next.mp h
    exact ⟨ht, hc, .inr ⟨rfl, by simp [hl, LineState.code]⟩⟩
  · cases h

end Sys2Proof.Machine
end

