-- ==== Sys2Proof/Laws/StepKinds.lean ====
section
/-! SUPPORT. The step of CORE closed to rule R13's three kinds, in terms of `step` and `exec`. -/

namespace Sys2Proof.Machine

theorem waitsPartOfAStep_of_decode {s : State} {w : PortWord} {rest : List PortWord} {i : Instr} (hs : s.inbox = w :: rest)
    (hd : decode s.config w = .ok i) : waitsPartOfAStep s = (stepKind i).isNone := by
  simp [waitsPartOfAStep, hs, hd]

/-- Everything a step of the closed CORE can do: nothing, with no transaction waiting, or one instruction of the
three kinds. -/
theorem coreStep_next {s t : State} (h : coreStep s = .next t) :
    (s.inbox = [] ∧ t = s) ∨
    ∃ w rest i k, s.inbox = w :: rest ∧ decode s.config w = .ok i ∧ stepKind i = some k ∧
      exec i { s with inbox := rest } = .next t := by
  unfold coreStep at h
  split at h
  · cases h
  · rename_i hp
    rcases hs : s.inbox with _ | ⟨w, rest⟩
    · simp only [step, hs] at h
      exact .inl ⟨rfl, by cases h; rfl⟩
    · rcases hd : decode s.config w with r | i
      · simp only [step, hs, hd] at h
        obtain ⟨-, -, hr⟩ := takeUnlisted_next h
        exact absurd (by rcases hr with ⟨rfl, -⟩ | ⟨rfl, -⟩ <;> simp [waitsPartOfAStep, hs, hd]) hp
      · rw [waitsPartOfAStep_of_decode hs hd] at hp
        obtain ⟨k, hk⟩ := Option.isSome_iff_exists.mp (by simpa [Option.isSome_iff_ne_none] using hp)
        refine .inr ⟨w, rest, i, k, rfl, hd, hk, ?_⟩
        simpa [step, hs, hd] using h

/-- After a SyncLost a decoder of the sampled line code is in its reset state. -/
theorem lineAfterLoss_eq_reset {c : ReadConfig} {l : LineState} (h : l.code = c.lineCode) :
    lineAfterLoss c l = LineState.reset c := by
  cases l <;> simp_all [LineState.code, LineState.reset, lineAfterLoss, ← h]

end Sys2Proof.Machine
end

