-- ==== Sys2Proof/Tests/Slice0.lean ====
section
/-! SUPPORT. Tests: one check of the well-formedness predicate each, words written out from the encodings of
the spec, one small step per instruction with the expected result taken from `95_test_vectors.md` or by hand
from the rule named, and for every obligation with hypotheses a state and operands that meet them. -/

namespace Sys2Proof.Tests

open Sys2Proof.Machine

/-! ## Small states -/

/-- What the decoder makes of one lane on a port, under the defaults. -/
def read (p : Port) (lanes : List Nat) : Option Instr := (decode Config.default ⟨p, lanes⟩).toOption

/-- The next state after one instruction, where there is one. -/
def after (i : Instr) (s : State) : Option State := nextOf (exec i s)

/-- The events one instruction adds from a state. -/
def events (i : Instr) (s : State) : Option (List Event) := (after i s).map (newEvents s)

/-- The default configuration with another line code. -/
def biphaseConfig : Config := { Config.default with read := { Config.default.read with lineCode := .biphase } }

/-- The reset state of a CORE configured for Biphase. -/
def biphaseReset : State := resetCore { State.reset with cfg := biphaseConfig }

/-- The reset state with another CS. -/
def withCS (d : Divider) (hasSync : Bool) (pulses errors hi lo : Nat) : State :=
  { State.reset with
    cs := { CSState.reset d with hasSync := hasSync, pulseCount := pulses, errorCount := errors, hiCount := hi, loCount := lo } }

/-- The reset state with another MD. -/
def withMD (last : Level) (timer : Bool) : State :=
  { State.reset with line := .manchester { lastOutput := last, timerRunning := timer } }

/-- The Biphase reset state with another BD. -/
def withBD (wasShort : Bool) : State := { biphaseReset with line := .biphase { lastWasShort := wasShort } }

/-- Synchronized on the last Sample of a window, MD idle after a 1. -/
def syncedMD : State :=
  { withCS .d64 true 49 9 5 5 with line := .manchester { lastOutput := Level.ofBit true, timerRunning := false } }

/-- Synchronized on the last Sample of a window, BD idle. -/
def syncedBD : State := { biphaseReset with cs := (withCS .d16 true 49 9 5 5).cs }

/-- The reset state with TD in `Preamble` after a run of ones. -/
def withRun (n : Nat) : State := { State.reset with td := { TDState.reset with onesCount := n } }

/-- The reset state with TD in `Data`. -/
def withTD (nib : Nibble) (fill nibIdx : Nat) (frame : Frame) : State :=
  { State.reset with td := { mode := .data, onesCount := 0, nibBuf := nib, fill := fill, nibIdx := nibIdx, frame := frame } }

/-- The frame bytes of V-TD-1 before the last group. -/
def refFrame : Frame := ⟨0x12, 0x34, 0x56, 0x78, 0x9A, 0⟩

/-- The reset state with a read path configured but not sampled by `RESET`. -/
def unsampled : State := { State.reset with cfg := biphaseConfig }

/-- The reset state with another `DUR_W` that `RESET` has not sampled. -/
def unsampledWidth : State :=
  { State.reset with cfg := { Config.default with read := { Config.default.read with durW := 8 } } }

/-- The reset state under other write parameters. -/
def withWrite (f : WriteConfig → WriteConfig) : State :=
  { State.reset with cfg := { Config.default with write := f Config.default.write } }

/-- The parameter record of V-TE-5: RF/16, Manchester, the other fields at their defaults. -/
def params5 (modulation : BitVec 4) (psk : BitVec 2) : ParamsPort where
  lock := false
  masterKey := 0
  dataRate := 1
  modulation := modulation
  pskSubcarrier := psk
  answerOnRequest := false
  maxBlock := 0
  password := false
  sequenceTerminator := false
  powerOnResetDelay := false

/-- A short command frame's bits, all of them fixed: page 0, no lock, data 0, block 0. -/
def zeroCommand : List Bool := commandBits false none false 0 0

/-! ## Well-formedness (R80, R85, R101) -/

theorem test_wellFormed_sample : WellFormed Config.default (.csSample .high 65535) = true := by decide
theorem test_illFormed_sample_too_wide : WellFormed Config.default (.csSample .high 65536) = false := by decide
theorem test_wellFormed_faultRow_nine : WellFormed Config.default (.faultRow 9) = true := by decide
theorem test_illFormed_faultRow_ten : WellFormed Config.default (.faultRow 10) = false := by decide
theorem test_illFormed_train_of_a_start_gap_only : WellFormed Config.default (.train [⟨240, .low⟩]) = false := by decide
set_option maxRecDepth 20000 in
theorem test_wellFormed_train : WellFormed Config.default (.train (trainOf Config.default.write zeroCommand)) = true := by
  decide
set_option maxRecDepth 20000 in
theorem test_illFormed_train_with_a_wide_gap :
    WellFormed { Config.default with write := { Config.default.write with tWriteGap := 65536 } }
      (.train (trainOf { Config.default.write with tWriteGap := 65536 } zeroCommand)) = false := by decide

/-! ## Decoding words written out from the spec's encodings -/

-- R107: level above 16 duration bits
theorem test_decode_csSample : read .sample [0b1_0000000001000000] = some (.csSample .high 64) := by decide
theorem test_decode_csSample_widest : read .sample [0b0_1111111111111111] = some (.csSample .low 65535) := by decide
theorem test_decode_sample_too_wide : read .sample [0b10_0000000000000000] = none := by decide
-- R107: bit 1 level, bit 0 isLong
theorem test_decode_mdPulse : read .mdPulse [0b10] = some (.mdPulse .high false) := by decide
theorem test_decode_bdPulse : read .bdPulse [0b01] = some (.bdPulse .low true) := by decide
theorem test_decode_mdSyncLost : read .mdSync [0b000] = some .mdSyncLost := by decide
theorem test_decode_bdSyncLost : read .bdSync [0b000] = some .bdSyncLost := by decide
-- a SyncAcquired word, an unused divider code
theorem test_decode_mdSync_acquired : decode Config.default ⟨.mdSync, [0b110]⟩ = .error .mdSyncAcquired := by rfl
theorem test_decode_bdSync_unused : decode Config.default ⟨.bdSync, [0b111]⟩ = .error .unusedPortCode := by rfl
theorem test_decode_tdBit : read .bit [1] = some (.tdBit true) := by decide
-- R105, R110: operands on separate ports
theorem test_decode_eeGenerate : read .generate [0x12, 0x3456789A] = some (.eeGenerate 0x12 0x3456789A) := by decide
theorem test_decode_teEncodeBlock :
    read .encodeBlock [1, 5, 1, 1, 0x11223344, 0x80000001] = some (.teEncodeBlock true 5 true true 0x11223344 0x80000001) := by
  decide
theorem test_decode_teEncodeParams :
    read .encodeParams [0, 0, 1, 8, 0, 0, 0, 0, 0, 0, 0, 0] = some (.teEncodeParams (params5 8 0) false 0) := by decide
theorem test_decode_reset : read .reset [] = some .reset := by decide
theorem test_decode_lane_count : read .reset [0] = none := by decide
-- R107: 1 and the divider code, or 000
theorem test_decode_syncAcq16 : read .sync [0b100] = some .syncAcq16 := by decide
theorem test_decode_syncAcq32 : read .sync [0b101] = some .syncAcq32 := by decide
theorem test_decode_syncAcq64 : read .sync [0b110] = some .syncAcq64 := by decide
theorem test_decode_syncLost : read .sync [0b000] = some .syncLost := by decide
theorem test_decode_sync_unused : read .sync [0b111] = none := by decide
theorem test_decode_token : read .token [0x123456789A] = some (.token 0x12 0x3456789A) := by decide
theorem test_decode_faultRow : read .framingFault [0b01_0010] = some (.faultRow 2) := by decide
theorem test_decode_faultRow_ten : read .framingFault [0b01_1010] = none := by decide
theorem test_decode_faultStop : read .framingFault [0b10_1010] = some .faultStop := by decide
theorem test_decode_faultCol : read .framingFault [0b11_1010] = some .faultCol := by decide
-- R86, R87: W1 and W0 of V-EE-3 as one number; V-EE-3's row parities, group 0 lowest, and its column nibble
set_option maxRecDepth 10000 in
theorem test_decode_em4100Frame :
    read .frame [0x69531F19526531FF] = some (.em4100Frame 0x12 0x3456789A 0b0011001011 0xB) := by decide
theorem test_decode_em4100Frame_stop_bit_set : read .frame [0xE9531F19526531FF] = none := by decide
-- R87: W0 and W1 of V-EE-3 field by field (groups bit-reversed)
theorem test_decode_epromW0 :
    read .epromW0 [0b010_1_0010_0_1100_1_0100_1_1000_111111111] = some (.epromW0 2 true 2 false 0xC true 4 true 8) := by
  decide
theorem test_decode_epromW0_preamble_broken : read .epromW0 [0x526531FE] = none := by decide
theorem test_decode_epromW1 :
    read .epromW1 [0b0_1101_0_0101_0_1001_1_0001_1_1110_0_0110_0_1] =
      some (.epromW1 0xD false 5 false 9 true 1 true 0xE false 6 false true) := by decide
-- R90: bit k is cmdbits[k]; air order 1, page 1, lock 1, data 5 LSB-first, block 3 = 011
theorem test_decode_t5557CmdShort :
    read .cmdShort [0b110_00000000000000000000000000000101_1_1_1] = some (.t5557CmdShort true true 5 3) := by decide
theorem test_decode_t5557CmdShort_no_write_marker : read .cmdShort [0] = none := by decide
-- the same frame with password 80000000, whose first bit on the air is its top bit
set_option maxRecDepth 10000 in
theorem test_decode_t5557CmdLong :
    read .cmdLong [0b110_00000000000000000000000000000101_1_00000000000000000000000000000001_1_1] =
      some (.t5557CmdLong true 0x80000000 true 5 3) := by decide
theorem test_decode_opcode_page0 : read .opcode [0b01] = some .t5557OpcodeWritePage0 := by decide
theorem test_decode_opcode_page1 : read .opcode [0b11] = some .t5557OpcodeWritePage1 := by decide
-- R96: the word of V-TE-5
theorem test_decode_t5557ConfigWord :
    read .configWord [0x00048000] = some (.t5557ConfigWord 0 .rf16 .manchester .rf2 false 0 false false false) := by decide
theorem test_decode_configWord_reserved_bit : read .configWord [0x00048002] = none := by decide
theorem test_decode_dataRate : (List.range 8).map (fun n => read .dataRate [n]) =
    [some .dataRateRf8, some .dataRateRf16, some .dataRateRf32, some .dataRateRf40, some .dataRateRf50, some .dataRateRf64,
     some .dataRateRf100, some .dataRateRf128] := by decide
theorem test_decode_modulation : [0, 1, 2, 3, 4, 5, 6, 7, 8, 9, 16, 17].map (fun n => read .modulation [n]) =
    [some .modulationDirect, some .modulationPsk1, some .modulationPsk2, some .modulationPsk3, some .modulationFsk1,
     some .modulationFsk2, some .modulationFsk1a, some .modulationFsk2a, some .modulationManchester, none,
     some .modulationBiphase, none] := by decide
theorem test_decode_psk :
    (List.range 4).map (fun n => read .psk [n]) = [some .pskRf2, some .pskRf4, some .pskRf8, none] := by decide
theorem test_decode_train_too_short : read .train [240] = none := by decide
theorem test_decode_faultCode : (List.range 8).map (fun n => read .faultCode [n]) =
    [none, some .faultcodeRowParity, some .faultcodeStopBit, some .faultcodeColumnParity, some .faultcodeTooManyPulses,
     some .faultcodeTooManySamples, some .faultcodeInvalidParameter, none] := by decide
theorem test_decode_wire : (List.range 12).map (fun n => read .wireCommand [n, 0, 0]) =
    [some .wireNop, some .wireGetVersion, some .wireReset, some (.wireCoilEnable 0), some .wirePulseVectorRead,
     some .wirePulseVectorWrite, some .wireSampleVectorRead, some .wireSampleVectorWrite, some .wireGetBufferSize,
     some (.wireTransferStart 0 0 0), some (.wireTransferStatus 0), none] := by decide
theorem test_decode_wireTransferStart :
    read .wireCommand [0x09, 0xA012, 0x0100] = some (.wireTransferStart 0xA0 0x12 0x0100) := by decide
-- COIL_ENABLE with a Value, and TRANSFER_STATUS with an Index, of which the table says nothing
theorem test_decode_wireCoilEnable : read .wireCommand [0x03, 0, 2] = some (.wireCoilEnable 2) := by decide
theorem test_decode_wireTransferStatus : read .wireCommand [0x0a, 0xFF, 0] = some (.wireTransferStatus 0xFF) := by decide
theorem test_decode_wireTransferStatus_wide : read .wireCommand [0x0a, 0x100, 0] = some (.wireTransferStatus 0x100) := by decide
-- START_ON_EDGE beside a lower flag and a prescaler
theorem test_decode_wireFlag_with_other_bits : read .wireFlag [0x5034] = some .wireFlagStartOnEdge := by decide
theorem test_decode_wireFlag : [0x8000, 0x4000, 0x2000, 0x1000, 0].map (fun n => read .wireFlag [n]) =
    [some .wireFlagFirstOnStart, some .wireFlagStartOnEdge, some .wireFlagFallingEdge, some .wireFlagTxMode, none] := by
  decide
theorem test_decode_wireStatus : (List.range 5).map (fun n => read .wireStatus [n]) =
    [some .wireStatusUnknown, some .wireStatusOk, some .wireStatusTimeout, some .wireStatusInProgress, none] := by decide
theorem test_decode_wireRc : (List.range 6).map (fun n => read .wireRc [n]) =
    [some .wireRcOk, some .wireRcInvalidCmd, some .wireRcBusy, some .wireRcInvalidVal, some .wireRcTimeout, none] := by decide

/-! ## The bits of a table row, as the host presents them -/

theorem test_tableWord_wireNop : decodeTableWord 8 0 = some .wireNop := by decide
theorem test_tableWord_epromW0 : decodeTableWord 32 0x1FF = some (.epromW0 0 false 0 false 0 false 0 false 0) := by decide
-- the table's EM4100.FRAME and T5557.CMD.SHORT as written, first character on top, operands zero
set_option maxRecDepth 20000 in
theorem test_tableWord_frame_as_written : decodeTableWord 64 0xFF80000000000000 = some (.em4100Frame 0 0 0 0) := by decide
set_option maxRecDepth 20000 in
theorem test_tableWord_cmdShort_as_written : decodeTableWord 40 0x2000000000 = some (.t5557CmdShort false false 0 0) := by
  decide
theorem test_step_runs_the_table_word :
    (nextOf (step (State.reset.withFetchWord 16 0x1000))).map State.trace = some [.wireFlag 0x1000] := by decide

/-! ## Classification (V-CS-1) -/

theorem test_classify_divider16 :
    [0, 47, 48, 80, 81, 95, 96, 160, 161, 65535].map (classify Divider.d16.shortRange Divider.d16.longRange) =
      [.none, .none, .short, .short, .none, .none, .long, .long, .none, .none] := by decide
theorem test_classify_divider64 :
    [191, 192, 320, 321, 383, 384, 640, 641].map (classify Divider.d64.shortRange Divider.d64.longRange) =
      [.none, .short, .short, .none, .none, .long, .long, .none] := by decide

/-! ## One step of each operation -/

-- V-CS-2 Sample 10; V-CS-10 Sample 50
theorem test_csSample_acquires : (after (.csSample .low 128) (withCS .d16 false 9 0 5 4)).map (fun t => (t.cs, t.trace)) =
    some ((withCS .d16 true 10 0 5 5).cs, [.acquired .d16]) := by decide
theorem test_csSample_loss_wins_over_boundary :
    (after (.csSample .low 1000) (withCS .d16 true 49 9 5 5)).map (fun t => (t.cs, t.trace)) =
      some (CSState.reset .d32, [.lost]) := by decide
-- V-MD-5 rows 4 and 5
theorem test_mdPulse_commits : (after (.mdPulse .high true) (withMD .low true)).map State.line =
    some (.manchester { lastOutput := .high, timerRunning := false }) := by decide
theorem test_mdPulse_arms : (after (.mdPulse .low false) (withMD .high false)).map (fun t => (t.line, t.trace)) =
    some (.manchester { lastOutput := .high, timerRunning := true }, []) := by decide
-- V-MD-6
theorem test_mdSyncLost : (after .mdSyncLost (withMD .high true)).map State.line =
    some (.manchester { lastOutput := .low, timerRunning := false }) := by decide
-- V-BD-1 rows 2 and 5
theorem test_bdPulse_pairs : events (.bdPulse .low false) (withBD true) = some [.bit false] := by decide
theorem test_bdPulse_long_drops_the_pending : (after (.bdPulse .high true) (withBD true)).map (fun t => (t.line, t.trace)) =
    some (.biphase { lastWasShort := false }, [.bit true]) := by decide
-- V-BD-6
theorem test_bdSyncLost : (after .bdSyncLost (withBD true)).map State.line = some (.biphase { lastWasShort := false }) := by
  decide
-- V-TD-1: the last bit of the frame; V-TD-2: a group of ones with a fifth one
theorem test_tdBit_token : (after (.tdBit false) (withTD 0xB 4 10 refFrame)).map (fun t => (t.td, t.trace)) =
    some (TDState.reset, [.token 0x12 0x3456789A]) := by decide
theorem test_tdBit_rowFault : events (.tdBit true) (withTD 0xF 4 0 Frame.zero) = some [.framingFault .rowParity 0] := by
  decide
-- V-EE-3 and V-EE-6
set_option maxRecDepth 10000 in
theorem test_eeGenerate : events (.eeGenerate 0x12 0x3456789A) State.reset =
    some [.epromW0 0x526531FF, .epromW1 0x69531F19] := by decide
set_option maxRecDepth 10000 in
theorem test_eeGenerate_A5 : events (.eeGenerate 0xA5 0xDEADBEEF) State.reset =
    some [.epromW0 0xB7DA8BFF, .epromW1 0x7BEF7EEC] := by decide
-- V-TE-3: 77 Samples, 15408 microseconds in all; a pulse vector of three entries takes no train of four durations
set_option maxRecDepth 20000 in
theorem test_teEncodeBlock : (events (.teEncodeBlock true 3 true false 0 5) State.reset).map
      (fun l => l.map fun e => match e with | .train t => (t.length, (t.map Sample.dur).sum) | _ => (0, 0)) =
    some [(77, 15408)] := by decide
set_option maxRecDepth 20000 in
theorem test_teEncodeBlock_too_many_pulses :
    events (.teEncodeBlock true 3 true false 0 5) (withWrite fun w => { w with pulseVecSize := 3 }) =
      some [.commandFault (.tooManyPulses 4)] := by decide
-- V-TE-5: the configuration word
theorem test_teEncodeParams_word : (params5 8 0).word? = some 0x00048000 := by decide
theorem test_teEncodeParams_invalid : events (.teEncodeParams (params5 10 0) false 0) State.reset =
    some [.commandFault .invalidParameter] := by decide
-- R281
theorem test_reset : (after .reset { withCS .d64 true 30 3 9 9 with td := (withTD 5 3 4 refFrame).td }).map State.core =
    some State.reset.core := by decide
theorem test_reset_samples_the_line_code : (after .reset unsampled).map State.line =
    some (.biphase { lastWasShort := false }) := by decide

/-! ## One step of each row that is no operation -/

theorem test_syncLost_keeps_TD : (after .syncLost { withMD .high true with td := (withTD 5 3 4 refFrame).td }).map
      (fun t => (t.line, t.td, t.trace)) =
    some (.manchester { lastOutput := .low, timerRunning := false }, (withTD 5 3 4 refFrame).td, [.lost]) := by decide
theorem test_token : events (.token 0x12 0x3456789A) State.reset = some [.token 0x12 0x3456789A] := by decide
theorem test_faultRow_leaves_TD : (after (.faultRow 2) (withTD 5 3 4 refFrame)).map (fun t => (t.td, t.trace)) =
    some ((withTD 5 3 4 refFrame).td, [.framingFault .rowParity 2]) := by decide
-- V-TD-1
set_option maxRecDepth 20000 in
theorem test_em4100Frame : events (.em4100Frame 0x12 0x3456789A 0b0011001011 0xB) State.reset =
    some [.token 0x12 0x3456789A] := by decide
theorem test_opcode_page0 : events .t5557OpcodeWritePage0 State.reset = some [.opcode [true, false]] := by decide
-- the row puts out the word of V-TE-5
theorem test_configWord : events (.t5557ConfigWord 0 .rf16 .manchester .rf2 false 0 false false false) State.reset =
    some [.configWord 0x00048000] := by decide
theorem test_modulation_biphase : events .modulationBiphase State.reset = some [.modulationCode 16] := by decide
-- V-TE-1's word as a command frame of its own: 38 bits, 18736 microseconds
set_option maxRecDepth 20000 in
theorem test_t5557CmdShort : (events (.t5557CmdShort false false 0x526531FF 1) State.reset).map
      (fun l => l.map fun e => match e with | .train t => (t.length, (t.map Sample.dur).sum) | _ => (0, 0)) =
    some [(77, 18736)] := by decide
-- V-TE-2: 141 Samples, 29232 microseconds
set_option maxRecDepth 40000 in
theorem test_t5557CmdLong : (events (.t5557CmdLong true 0x11223344 true 0x80000001 5) State.reset).map
      (fun l => l.map fun e => match e with | .train t => (t.length, (t.map Sample.dur).sum) | _ => (0, 0)) =
    some [(141, 29232)] := by decide
theorem test_faultcode_invalidParameter : events .faultcodeInvalidParameter State.reset = some [.faultCode 6] := by decide
theorem test_wireCoilEnable : (after (.wireCoilEnable 1) State.reset).map State.coil = some true := by decide
theorem test_wireCoilEnable_unlisted : (after (.wireCoilEnable 2) State.reset).map State.core = some State.reset.core := by
  decide
theorem test_wireTransferStatus_wide : (after (.wireTransferStatus 0x100) State.reset).map State.core =
    some State.reset.core := by decide
theorem test_wireReset_keeps_CORE : (after .wireReset (withCS .d64 true 30 3 9 9)).map State.core =
    some (withCS .d64 true 30 3 9 9).core := by decide
theorem test_wireFlag_txMode : events .wireFlagTxMode State.reset = some [.wireFlag 0x1000] := by decide
theorem test_wireRc_timeout : events .wireRcTimeout State.reset = some [.wireRc 4] := by decide

/-! ## Refusals -/

theorem test_sample_too_wide_is_refused : exec (.csSample .low 65536) State.reset = .refused .sampleTooWide := by rfl
theorem test_absent_decoder_is_refused : exec (.bdPulse .low true) State.reset = .refused .decoderAbsent := by rfl
theorem test_unsampled_width_is_refused_by_TE :
    exec (.teEncodeBlock false 0 false false 0 0) unsampledWidth = .refused .configurationChanged := by rfl
theorem test_unsampled_configuration_is_refused : exec (.tdBit true) unsampled = .refused .configurationChanged := by rfl

/-! ## Witnesses: for each obligation with hypotheses, something that meets them -/

theorem test_witness_DecodeEncodeRoundTrip : WellFormed Config.default (.csSample .high 65535) = true := by decide
theorem test_witness_DecodedInstructionIsWellFormed :
    decode Config.default ⟨.framingFault, [0b011001]⟩ = .ok (.faultRow 9) := by rfl
theorem test_witness_StepRunsTheDecodedInstruction :
    let s := { State.reset with inbox := [⟨.bit, [1]⟩] }
    let u := { State.reset with inbox := [⟨.sync, [7]⟩] }
    (s.inbox = ⟨.bit, [1]⟩ :: [] ∧ decode s.config ⟨.bit, [1]⟩ = .ok (.tdBit true)) ∧
    (u.inbox = ⟨.sync, [7]⟩ :: [] ∧ decode u.config ⟨.sync, [7]⟩ = .error .unusedPortCode ∧
      Reject.unusedPortCode ≠ .mdSyncAcquired ∧ Reject.unusedPortCode ≠ .bdSyncAcquired) ∧ State.reset.inbox = [] :=
  ⟨⟨rfl, rfl⟩, ⟨rfl, rfl, by decide, by decide⟩, rfl⟩
theorem test_witness_StepRunsTheDecodedInstruction_acquired :
    (let s := { withMD .high true with inbox := [⟨.mdSync, [4]⟩] }
     4 ∈ [4, 5, 6] ∧ s.Configured ∧ s.inbox = ⟨.mdSync, [4]⟩ :: [] ∧
      s.line = .manchester { lastOutput := .high, timerRunning := true }) ∧
    (let s := { withBD true with inbox := [⟨.bdSync, [6]⟩] }
     6 ∈ [4, 5, 6] ∧ s.Configured ∧ s.inbox = ⟨.bdSync, [6]⟩ :: [] ∧ s.line = .biphase { lastWasShort := true }) := by
  decide
-- R162: MD keeps its state on a SyncAcquired
theorem test_step_syncAcquired_has_no_effect :
    nextOf (step { withMD .high true with inbox := [⟨.mdSync, [5]⟩] }) = some (withMD .high true) := by decide
theorem test_witness_StepKeepsInvariant :
    let s := { withCS .d16 false 9 0 5 4 with inbox := [⟨.sample, [128]⟩] }
    s.Inv ∧ (nextOf (step s)).isSome = true := by decide
-- a Sample that loses lock; a bit, which is a part of a step and is refused
theorem test_witness_CoreTakesThreeKindsOfStep :
    (let s := { withCS .d16 true 9 9 0 0 with inbox := [⟨.sample, [1000]⟩] }
     s.ClosedInv ∧ (nextOf (coreStep s)).isSome = true) ∧
    (let s := { State.reset with inbox := [⟨.bit, [1]⟩] }
     s.inbox = ⟨.bit, [1]⟩ :: [] ∧ (decode s.config ⟨.bit, [1]⟩).toOption = some (.tdBit true) ∧
      stepKind (.tdBit true) = none) ∧
    (let s := { State.reset with inbox := [⟨.reset, []⟩] }
     s.inbox = ⟨.reset, []⟩ :: [] ∧ (decode s.config ⟨.reset, []⟩).toOption = some .reset ∧
      (stepKind .reset).isSome = true) := by decide
theorem test_coreStep_refuses_a_part_of_a_step :
    coreStep { State.reset with inbox := [⟨.bit, [1]⟩] } = .refused .partOfAStep := by rfl
-- one state per clause: the ninth error, a High match, a Low match, each on the fiftieth Sample
theorem test_witness_UnsynchronizedSampleIsCounted :
    (let s := withCS .d16 false 49 8 41 0
     s.Configured ∧ 81 < 2 ^ s.latched.durW ∧ s.cs.hasSync = false ∧ classify s.cs.shortRange s.cs.longRange 81 = .none ∧
      s.cs.errorCount < 9 ∧ ¬(4 < s.cs.hiCount ∧ 4 < s.cs.loCount ∧ s.cs.errorCount + 1 < 4)) ∧
    (let s := withCS .d16 false 49 9 4 36
     s.Configured ∧ 80 < 2 ^ s.latched.durW ∧ s.cs.hasSync = false ∧ classify s.cs.shortRange s.cs.longRange 80 ≠ .none ∧
      s.cs.errorCount < 10 ∧ ¬(4 < s.cs.hiCount + 1 ∧ 4 < s.cs.loCount ∧ s.cs.errorCount < 4)) ∧
    (let s := withCS .d16 false 49 4 41 4
     s.Configured ∧ 160 < 2 ^ s.latched.durW ∧ s.cs.hasSync = false ∧
      classify s.cs.shortRange s.cs.longRange 160 ≠ .none ∧ s.cs.errorCount < 10 ∧
      ¬(4 < s.cs.hiCount ∧ 4 < s.cs.loCount + 1 ∧ s.cs.errorCount < 4)) := by decide
theorem test_witness_AcquiringSampleDeclaresLock :
    let s := withCS .d16 false 12 3 5 4
    s.Configured ∧ 128 < 2 ^ s.latched.durW ∧ s.cs.hasSync = false ∧ classify s.cs.shortRange s.cs.longRange 128 ≠ .none ∧
      s.cs.errorCount < 4 ∧ 4 < s.cs.hiCount + (if Level.low = .high then 1 else 0) ∧
      4 < s.cs.loCount + (if Level.low = .low then 1 else 0) := by decide
theorem test_witness_SynchronizedSampleIsForwarded :
    let s := withCS .d64 true 49 9 5 5
    let u := { withCS .d64 true 0 0 0 0 with trace := [.pulse { level := .low, isLong := true }] }
    s.Configured ∧ 640 < 2 ^ s.latched.durW ∧ s.cs.hasSync = true ∧ s.cs.errorCount < 10 ∧
      classify s.cs.shortRange s.cs.longRange 640 = .long ∧ PulseClass.long ≠ .none ∧
      u = { s with
        cs := windowed { s.cs with pulseCount := s.cs.pulseCount + 1 }
        trace := s.trace ++ [.pulse { level := .low, isLong := decide (PulseClass.long = .long) }] } ∧
      s.line = .manchester { lastOutput := .low, timerRunning := false } := by decide
theorem test_witness_SynchronizedSampleIsForwarded_biphase :
    let s := { biphaseReset with cs := (withCS .d16 true 3 0 1 1).cs }
    s.Configured ∧ s.cs.hasSync = true ∧ s.cs.errorCount < 10 ∧ classify s.cs.shortRange s.cs.longRange 48 = .short ∧
      s.line = .biphase { lastWasShort := false } := by decide
theorem test_witness_SynchronizedMissIsCounted :
    let s := withCS .d64 true 49 8 5 5
    s.Configured ∧ 641 < 2 ^ s.latched.durW ∧ s.cs.hasSync = true ∧ s.cs.errorCount < 9 ∧
      classify s.cs.shortRange s.cs.longRange 641 = .none := by decide
theorem test_witness_TenthErrorLosesLock :
    let s := withCS .d64 true 49 9 5 5
    s.Configured ∧ 0 < 2 ^ s.latched.durW ∧ s.cs.errorCount = 9 ∧ classify s.cs.shortRange s.cs.longRange 0 = .none := by
  decide
theorem test_witness_EachSampleCausesAtMostOneEventOfEachStage :
    let s := withCS .d64 true 49 9 5 5
    s.Configured ∧ s.Inv ∧ 65535 < 2 ^ s.latched.durW := by decide
-- one order of the three for each starting divider; k at the ends of its range and at a loss
theorem test_witness_NeverMatchingInputCyclesTheDividers :
    let s := withCS .d32 true 0 0 0 0
    let order : List Divider := [.d32, .d64, .d16, .d32]
    (s.Configured ∧ s.Inv) ∧ s.cs.pulseCount = 0 ∧ (List.replicate 30 (Sample.mk 641 .high)).length = 30 ∧
      (∀ x ∈ List.replicate 30 (Sample.mk 641 .high), neverMatches x ∧ x.dur < 2 ^ s.latched.durW) ∧
      order ∈ [[.d16, .d32, .d64, .d16], [.d32, .d64, .d16, .d32], [.d64, .d16, .d32, .d64]] ∧
      order[0]? = some s.cs.divider ∧ ∀ k ∈ [0, 9, 10, 30], k ≤ 30 := by decide
theorem test_witness_NeverMatchingInputCyclesTheDividers_other_starts :
    ([.d16, .d32, .d64, .d16] : List Divider)[0]? = some (withCS .d16 false 0 0 0 0).cs.divider ∧
    ([.d64, .d16, .d32, .d64] : List Divider)[0]? = some (withCS .d64 false 0 0 0 0).cs.divider := by decide
theorem test_neverMatches_gaps :
    [0, 47, 81, 95, 161, 191, 321, 383, 641].all (fun d => decide (neverMatches ⟨d, .low⟩)) = true ∧
    [48, 80, 96, 160, 192, 320, 384, 640].any (fun d => decide (neverMatches ⟨d, .low⟩)) = false := by decide
-- divider 16, and a duration that is long at divider 32 next
theorem test_witness_NineteenBadSamplesLoseLock_other_divider :
    let s := withCS .d16 false 41 0 9 32
    s.cs.pulseCount = 41 ∧ classify s.cs.shortRange s.cs.longRange 256 = .none ∧
      classify s.cs.divider.next.shortRange s.cs.divider.next.longRange 256 = .long := by decide
theorem test_witness_NineteenBadSamplesLoseLock :
    let s := withCS .d32 true 41 0 9 9
    s.Configured ∧ s.Inv ∧ (List.replicate 19 (Sample.mk 161 .low)).length = 19 ∧
      ∀ x ∈ List.replicate 19 (Sample.mk 161 .low), classify s.cs.shortRange s.cs.longRange x.dur = .none ∧
        x.dur < 2 ^ s.latched.durW := by decide
theorem test_witness_NoEventInTheFirstNineSamples :
    let s := withCS .d32 false 0 0 0 0
    s.Configured ∧ s.Inv ∧ s.cs.hasSync = false ∧ s.cs.pulseCount = 0 ∧ (List.replicate 9 (Sample.mk 128 .low)).length ≤ 9 ∧
      ∀ x ∈ List.replicate 9 (Sample.mk 128 .low), x.dur < 2 ^ s.latched.durW := by decide
theorem test_witness_ReadPathRefusesWhatIsOutsideItsDomain :
    2 ^ State.reset.latched.durW ≤ 65536 ∧
    (¬ unsampled.Configured ∧ unsampled.line.code = unsampled.latched.lineCode ∧ 65535 < 2 ^ unsampled.latched.durW ∧
      unsampled.latched.lineCode = .manchester) ∧
    (let s := { biphaseReset with cfg := Config.default }
     ¬ s.Configured ∧ s.line.code = s.latched.lineCode ∧ s.latched.lineCode = .biphase) := by decide
theorem test_witness_MdPulseFollowsItsRule :
    (withMD .high true).Configured ∧ (withMD .high true).line = .manchester { lastOutput := .high, timerRunning := true } := by
  decide
theorem test_witness_MdSyncLostResetsTheDecoder :
    (withMD .high false).Configured ∧ (withMD .high false).line = .manchester { lastOutput := .high, timerRunning := false } := by
  decide
theorem test_witness_BdPulseFollowsItsRule :
    (withBD true).Configured ∧ (withBD true).line = .biphase { lastWasShort := true } := by decide
theorem test_witness_BdSyncLostClearsThePendingFlag :
    (withBD false).Configured ∧ (withBD false).line = .biphase { lastWasShort := false } := by decide
theorem test_witness_AbsentDecoderIsRefused :
    (withBD true).line = .biphase { lastWasShort := true } ∧
    (withMD .low true).line = .manchester { lastOutput := .low, timerRunning := true } := by decide
theorem test_witness_ManchesterDecoderRecoversTheBits :
    (withMD .high false).Configured ∧
    (withMD .high false).line = .manchester { lastOutput := Level.ofBit true, timerRunning := false } := by decide
theorem test_witness_BiphaseDecoderRecoversTheBits :
    (withBD false).Configured ∧ (withBD false).line = .biphase { lastWasShort := false } := by decide
theorem test_witness_SynchronizedCoreDecodesIdealSamples_biphase :
    (syncedBD.Configured ∧ syncedBD.Inv) ∧ syncedBD.cs.hasSync = true ∧ 10 ≤ syncedBD.latched.durW ∧
      syncedBD.line = .biphase { lastWasShort := false } := by decide
theorem test_witness_SynchronizedCoreDecodesIdealSamples_manchester :
    (syncedMD.Configured ∧ syncedMD.Inv) ∧ syncedMD.cs.hasSync = true ∧ 10 ≤ syncedMD.latched.durW ∧
      syncedMD.line = .manchester { lastOutput := Level.ofBit true, timerRunning := false } := by decide
theorem test_witness_PreambleBitCountsOnes :
    ((withRun 7).Configured ∧ (withRun 7).td.mode = .preamble ∧ (withRun 7).td.onesCount ≠ 8) ∧
    ((withRun 8).Configured ∧ (withRun 8).td.mode = .preamble ∧ (withRun 8).td.onesCount = 8) := by decide
theorem test_witness_DataBitEntersTheNibble :
    let s := withTD 5 3 0 Frame.zero
    s.Configured ∧ s.td.mode = .data ∧ s.td.fill < 4 := by decide
theorem test_witness_RowParityMismatchTakesTheFault :
    let s := withTD 1 4 9 Frame.zero
    s.Configured ∧ s.td.mode = .data ∧ s.td.fill = 4 ∧ s.td.nibIdx ≤ 9 ∧ false ≠ parity4 s.td.nibBuf := by decide
theorem test_witness_AcceptedGroupIsPacked :
    (let s := withTD 2 4 9 Frame.zero
     s.Configured ∧ s.td.mode = .data ∧ s.td.fill = 4 ∧ s.td.nibIdx ≤ 9 ∧ s.td.nibIdx % 2 = 1) ∧
    (let s := withTD 2 4 0 Frame.zero
     s.Configured ∧ s.td.mode = .data ∧ s.td.fill = 4 ∧ s.td.nibIdx ≤ 9 ∧ s.td.nibIdx % 2 = 0) := by decide
theorem test_witness_LastGroupEmitsTokenOrFault :
    let s := withTD 0xB 4 10 refFrame
    s.Configured ∧ s.td.mode = .data ∧ s.td.fill = 4 ∧ s.td.nibIdx = 10 ∧ s.td.frame.b5 = 0 := by decide
theorem test_witness_EncodedImageDecodesToItsToken : State.reset.Configured ∧ State.reset.td = TDState.reset := by decide
theorem test_witness_OneFlippedBitIsRejected : biphaseReset.Configured ∧ biphaseReset.td = TDState.reset := by decide
theorem test_witness_ConstantStreamsNeverDecode :
    (withCS .d64 true 3 0 1 1).Configured ∧ (withCS .d64 true 3 0 1 1).td = TDState.reset := by decide
theorem test_witness_FrameRowFeedsItsBits : (withTD 0xB 4 10 refFrame).Configured := by decide
theorem test_witness_TrainHasOnePulseAndOneGapPerBit : ([true, false] : List Bool)[1]? = some false := by rfl
theorem test_witness_ConfigurationWordFields :
    (0x00048000 : Word32) = configWord 0 .rf16 .manchester .rf2 false 0 false false false := by decide
set_option maxRecDepth 40000 in
theorem test_witness_BlockCommandsPutOutTheirTrain :
    (let bits := commandBits true none true 5 3
     State.reset.WriteReady ∧
      distinctDurations (trainOf State.reset.cfg.write bits) ≤ State.reset.cfg.write.pulseVecSize ∧
      (trainOf State.reset.cfg.write bits).length ≤ State.reset.cfg.write.sampleVecSize) ∧
    (let bits := commandBits true (some 0x11223344) true 0x80000001 5
     distinctDurations (trainOf State.reset.cfg.write bits) ≤ State.reset.cfg.write.pulseVecSize ∧
      (trainOf State.reset.cfg.write bits).length ≤ State.reset.cfg.write.sampleVecSize) := by decide
theorem test_witness_TrainPassesTheCapacityCheck : State.reset.WriteReady := by decide
set_option maxRecDepth 40000 in
theorem test_witness_CapacityFaultReplacesTheTrain :
    let s := withWrite fun w => { w with sampleVecSize := 76 }
    let short := commandBits true none true 5 3
    let long := commandBits true (some 0x11223344) true 0x80000001 5
    s.WriteReady ∧ capacityFault s.cfg.write (trainOf s.cfg.write short) = some (.tooManySamples 77) ∧
      capacityFault s.cfg.write (trainOf s.cfg.write long) = some (.tooManySamples 141) ∧
      (params5 8 0).word? = some 0x00048000 ∧
      capacityFault s.cfg.write (trainOf s.cfg.write (commandBits false none false 0x00048000 0)) =
        some (.tooManySamples 77) ∧
      capacityFault s.cfg.write (trainOf s.cfg.write (commandBits false (some 1) false 0x00048000 0)) =
        some (.tooManySamples 141) := by decide
theorem test_witness_FourPulsesAndALongTrainAlwaysFit :
    State.reset.WriteReady ∧ 4 ≤ State.reset.cfg.write.pulseVecSize ∧
      141 ≤ State.reset.cfg.write.sampleVecSize := by decide
set_option maxRecDepth 40000 in
theorem test_witness_ParamsCommandSendsTheConfigurationBlock :
    let p := params5 9 2
    let w := configWord p.masterKey (DataRate.ofOrdinal p.dataRate) .biphase .rf8 p.answerOnRequest p.maxBlock p.password
      p.sequenceTerminator p.powerOnResetDelay
    let bits := commandBits false none p.lock w 0
    State.reset.WriteReady ∧ Modulation.ofOrdinal p.modulation = some .biphase ∧
      PskSubcarrier.ofOrdinal p.pskSubcarrier = some .rf8 ∧
      distinctDurations (trainOf State.reset.cfg.write bits) ≤ State.reset.cfg.write.pulseVecSize ∧
      (trainOf State.reset.cfg.write bits).length ≤ State.reset.cfg.write.sampleVecSize := by decide
theorem test_witness_UnnamedOrdinalIsAnsweredWithInvalidParameter :
    State.reset.WriteReady ∧ 10 ≤ (params5 10 0).modulation.toNat ∧ (params5 8 3).pskSubcarrier = 3 := by decide
theorem test_witness_WideDurationParameterIsRefused :
    (let s := withWrite fun w => { w with tOne := 65536 }
     s.cfg.read.durW = s.latched.durW ∧ durationsFit s.cfg = false) ∧ unsampledWidth.cfg.read.durW ≠ unsampledWidth.latched.durW ∧
    Instr.train [] = .train [] := by decide
theorem test_witness_NominalTrainDeterminesItsBits :
    nominalTiming Config.default.write ∧ trainOf Config.default.write [true, false] = trainOf Config.default.write [true, false] := by
  decide
theorem test_witness_ReadAndWritePathsCommute :
    let r := Instr.tdBit true
    let w := Instr.eeGenerate 0 0
    isReadPath r = true ∧ isWritePath w = true ∧ ((after w State.reset).bind (after r)).isSome = true ∧
      ((after r State.reset).bind (after w)).isSome = true := by decide
theorem test_witness_ResetForgetsEverythingButTheConfiguration :
    (withCS .d64 true 30 3 9 9).cfg = (withMD .high true).cfg ∧ (after .reset (withCS .d64 true 30 3 9 9)).isSome = true ∧
      (after .reset (withMD .high true)).isSome = true := by decide
theorem test_witness_SyncLostResetsTheDecoderAndNotTD : (withMD .high true).Configured := by decide

end Sys2Proof.Tests
end

section
/-! PROOFS. The step in terms of what the first waiting port word decodes to (R13, R269). -/

namespace Sys2Proof.Machine

/-! ## One step, by what waits -/

theorem step_of_inbox_nil {s : State} (hs : s.inbox = []) : step s = .next s := by
  simp [step, hs]

theorem step_of_decode_ok {s : State} {w : PortWord} {rest : List PortWord} {i : Instr} (hs : s.inbox = w :: rest)
    (hd : decode s.config w = .ok i) : step s = exec i { s with inbox := rest } := by
  simp [step, hs, hd]

theorem step_of_decode_error {s : State} {w : PortWord} {rest : List PortWord} {r : Reject} (hs : s.inbox = w :: rest)
    (hd : decode s.config w = .error r) : step s = takeUnlisted r { s with inbox := rest } := by
  simp [step, hs, hd]

/-! ## Port words that are no row of the table -/

theorem takeUnlisted_of_ne_acquired {r : Reject} (s : State) (hmd : r ≠ .mdSyncAcquired) (hbd : r ≠ .bdSyncAcquired) :
    takeUnlisted r s = .refused (.undecodable r) := by
  unfold takeUnlisted
  split
  · exact absurd rfl hmd
  · exact absurd rfl hbd
  · rfl

/-- The three SyncAcquired codes of R107 at a line decoder's sync input. -/
theorem decodeSyncLost_acquired {n : Nat} (hn : n ∈ [4, 5, 6]) (lost : Instr) (acquired : Reject) :
    decodeSyncLost n lost acquired = .error acquired := by
  simp only [List.mem_cons, List.not_mem_nil, or_false] at hn
  rcases hn with rfl | rfl | rfl <;> rfl

/-- A SyncAcquired at MD's sync input is consumed without effect where MD is configured (R162). -/
theorem step_mdSyncAcquired {s : State} {n : Nat} {rest : List PortWord} {md : MDState} (hn : n ∈ [4, 5, 6])
    (hc : s.Configured) (hs : s.inbox = ⟨.mdSync, [n]⟩ :: rest) (hl : s.line = .manchester md) :
    step s = .next { s with inbox := rest } := by
  rw [step_of_decode_error hs (decodeSyncLost_acquired hn .mdSyncLost .mdSyncAcquired)]
  exact whenManchester_of _ hc hl

/-- A SyncAcquired at BD's sync input is consumed without effect where BD is configured (R162). -/
theorem step_bdSyncAcquired {s : State} {n : Nat} {rest : List PortWord} {bd : BDState} (hn : n ∈ [4, 5, 6])
    (hc : s.Configured) (hs : s.inbox = ⟨.bdSync, [n]⟩ :: rest) (hl : s.line = .biphase bd) :
    step s = .next { s with inbox := rest } := by
  rw [step_of_decode_error hs (decodeSyncLost_acquired hn .bdSyncLost .bdSyncAcquired)]
  exact whenBiphase_of _ hc hl

/-- Settles O4, clause by clause from the equations of `step`. -/
theorem stepRunsTheDecodedInstruction : Obligations.StepRunsTheDecodedInstruction := by
  refine ⟨?decoded, ?rejected, ?acquired, ?nothingWaits⟩
  case decoded =>
    intro s w rest i hs hd
    exact step_of_decode_ok hs hd
  case rejected =>
    intro s w rest r hs hd hmd hbd
    rw [step_of_decode_error hs hd, takeUnlisted_of_ne_acquired _ hmd hbd]
  case acquired =>
    intro s n rest hn hc
    exact ⟨fun md hs hl => step_mdSyncAcquired hn hc hs hl, fun bd hs hl => step_bdSyncAcquired hn hc hs hl⟩
  case nothingWaits =>
    intro s hs
    exact step_of_inbox_nil hs

end Sys2Proof.Machine
end

section
/-! PROOFS. The read path appends to the record without reading it, the write path appends to the record and does nothing
else; so the two commute (R13, R74). -/

namespace Sys2Proof.Machine

/-! ## The state under another record -/

/-- The state with another record. -/
def State.withTrace (s : State) (tr : List Event) : State := { s with trace := tr }

@[simp] theorem State.withTrace_cfg (s : State) (tr : List Event) : (s.withTrace tr).cfg = s.cfg := rfl
@[simp] theorem State.withTrace_latched (s : State) (tr : List Event) : (s.withTrace tr).latched = s.latched := rfl
@[simp] theorem State.withTrace_cs (s : State) (tr : List Event) : (s.withTrace tr).cs = s.cs := rfl
@[simp] theorem State.withTrace_line (s : State) (tr : List Event) : (s.withTrace tr).line = s.line := rfl
@[simp] theorem State.withTrace_td (s : State) (tr : List Event) : (s.withTrace tr).td = s.td := rfl
@[simp] theorem State.withTrace_trace (s : State) (tr : List Event) : (s.withTrace tr).trace = tr := rfl
@[simp] theorem State.withTrace_core (s : State) (tr : List Event) : (s.withTrace tr).core = s.core := rfl
@[simp] theorem State.withTrace_self (s : State) : s.withTrace s.trace = s := rfl
@[simp] theorem State.withTrace_withTrace (s : State) (tr tr' : List Event) :
    (s.withTrace tr).withTrace tr' = s.withTrace tr' := rfl

theorem newEvents_of_trace {s t : State} {l : List Event} (h : t.trace = s.trace ++ l) : newEvents s t = l := by
  simp [newEvents, h]

/-! ## Operations that append to the record without reading it -/

/-- From `s`, whatever the record holds, `f` does the same to everything else and appends the same events. -/
def Appends (f : State → State) (s : State) : Prop :=
  ∃ l, ∀ tr, f (s.withTrace tr) = (f s).withTrace (tr ++ l)

theorem Appends.of_silent {f : State → State} {s : State} (h : ∀ tr, f (s.withTrace tr) = (f s).withTrace tr) :
    Appends f s :=
  ⟨[], fun tr => by rw [h, List.append_nil]⟩

theorem Appends.congr {f g : State → State} {s : State} (h : ∀ tr, f (s.withTrace tr) = g (s.withTrace tr))
    (hg : Appends g s) : Appends f s := by
  obtain ⟨l, hl⟩ := hg
  have hs : f s = g s := h s.trace
  exact ⟨l, fun tr => by rw [h, hl, hs]⟩

theorem Appends.comp {f g : State → State} {s : State} (hg : Appends g (f s)) (hf : Appends f s) :
    Appends (fun x => g (f x)) s := by
  obtain ⟨l, hl⟩ := hf
  obtain ⟨m, hm⟩ := hg
  exact ⟨l ++ m, fun tr => by simp only [hl, hm, List.append_assoc]⟩

theorem emit_appends (e : Event) (s : State) : Appends (emit e) s := ⟨[e], fun _ => rfl⟩

/-! ### Token Decoder -/

theorem tdPreambleBit_appends (b : Bool) (s : State) : Appends (tdPreambleBit b) s :=
  .of_silent fun tr => by
    cases b with
    | false => rfl
    | true => by_cases h : s.td.onesCount + 1 = 9 <;> simp [tdPreambleBit, State.withTrace, h]

theorem tdFinish_appends (s : State) : Appends tdFinish s := by
  by_cases hc : s.td.frame.columnHolds
  · exact .congr (g := fun x => tdToPreamble (emitToken s.td.frame x)) (fun tr => by simp [tdFinish, hc])
      ⟨[_], fun _ => rfl⟩
  · exact .congr (g := takeFramingFault .columnParity 10) (fun tr => by simp [tdFinish, hc]) ⟨[_], fun _ => rfl⟩

theorem tdFifthBit_appends (b : Bool) (s : State) : Appends (tdFifthBit b) s := by
  by_cases hr : s.td.rowParityFails b
  · exact .congr (g := takeFramingFault .rowParity s.td.nibIdx) (fun tr => by simp [tdFifthBit, hr])
      ⟨[_], fun _ => rfl⟩
  by_cases hp : s.td.stopBitFails b
  · exact .congr (g := takeFramingFault .stopBit 10) (fun tr => by simp [tdFifthBit, hr, hp]) ⟨[_], fun _ => rfl⟩
  have hpack : Appends tdPack s := .of_silent fun _ => rfl
  by_cases hn : s.td.nibIdx + 1 = 11
  · exact .congr (fun tr => by simp only [tdFifthBit, State.withTrace_td, hr, hp, hn]; rfl)
      ((tdFinish_appends (tdPack s)).comp hpack)
  · exact .congr (g := tdPack) (fun tr => by simp only [tdFifthBit, State.withTrace_td, hr, hp, hn]; rfl) hpack

theorem tdBit_appends (b : Bool) (s : State) : Appends (tdBit b) s := by
  cases hm : s.td.mode with
  | preamble => exact .congr (fun tr => tdBit_preamble hm) (tdPreambleBit_appends b s)
  | data =>
    by_cases hf : s.td.fill < 4
    · exact .congr (g := tdDataBit b) (fun tr => tdBit_data hm hf) (.of_silent fun _ => rfl)
    · exact .congr (fun tr => tdBit_fifth hm hf) (tdFifthBit_appends b s)

/-! ### Line decoders -/

theorem deliverBit_appends (b : Bool) (s : State) : Appends (deliverBit b) s :=
  (tdBit_appends b _).comp (emit_appends _ s)

/-- A decoder takes its next state, then delivers a bit. -/
theorem deliverBit_withLine_appends (b : Bool) (ln : LineState) (s : State) :
    Appends (fun x => deliverBit b { x with line := ln }) s :=
  (deliverBit_appends b { s with line := ln }).comp (f := fun x => { x with line := ln }) (.of_silent fun _ => rfl)

theorem mdPulse_appends (md : MDState) (p : PulseEvent) (s : State) : Appends (mdPulse md p) s := by
  unfold mdPulse
  split_ifs
  · exact deliverBit_withLine_appends _ _ s
  · exact deliverBit_withLine_appends _ _ s
  · exact .of_silent fun _ => rfl
  · exact .of_silent fun _ => rfl

theorem bdPulse_appends (bd : BDState) (p : PulseEvent) (s : State) : Appends (bdPulse bd p) s := by
  unfold bdPulse
  split_ifs
  · exact deliverBit_withLine_appends _ _ s
  · exact deliverBit_withLine_appends _ _ s
  · exact .of_silent fun _ => rfl

theorem linePulse_appends (p : PulseEvent) (s : State) : Appends (linePulse p) s := by
  cases hl : s.line with
  | manchester md => exact .congr (fun tr => by simp [linePulse, hl]) (mdPulse_appends md p s)
  | biphase bd => exact .congr (fun tr => by simp [linePulse, hl]) (bdPulse_appends bd p s)

/-! ### Carrier Synchronizer -/

theorem deliverPulse_appends (p : PulseEvent) (s : State) : Appends (deliverPulse p) s :=
  (linePulse_appends p _).comp (emit_appends _ s)

theorem csForward_appends (level : Level) (k : PulseClass) (s : State) : Appends (csForward level k) s := by
  by_cases hk : k = .none
  · subst hk
    exact .of_silent fun tr => by simp only [csForward_none]
  cases hs : s.cs.hasSync with
  | false => exact .of_silent fun tr => by rw [csForward_of_unsync level k hs]; exact csForward_of_unsync level k hs
  | true => exact .congr (fun tr => csForward_match level hs hk) (deliverPulse_appends _ s)

theorem csAcquire_appends (s : State) : Appends csAcquire s := by
  by_cases ha : s.cs.acquires
  · exact ⟨[.acquired s.cs.divider], fun tr => by simp only [csAcquire, State.withTrace_cs, ha]; rfl⟩
  · exact .of_silent fun tr => by simp [csAcquire, ha]

theorem csBoundary_appends (s : State) : Appends csBoundary s :=
  .of_silent fun tr => by
    by_cases h : s.cs.windowEnds <;> simp [csBoundary, State.withTrace, h]

theorem csLoseLock_appends (s : State) : Appends csLoseLock s :=
  ⟨[.lost], fun tr => by simp [csLoseLock, deliverSyncLost_eq, State.withTrace]⟩

theorem csChecks_appends (s : State) : Appends csChecks s := by
  by_cases hl : s.cs.lockLost
  · exact .congr (fun tr => by simp [csChecks, hl]) (csLoseLock_appends s)
  · exact .congr (fun tr => by simp [csChecks, hl]) ((csBoundary_appends _).comp (csAcquire_appends s))

/-- A Sample counted and forwarded: the state in which the checks of R126 run. -/
def csCounted (smp : Sample) (s : State) : State :=
  csForward smp.level (classify s.cs.shortRange s.cs.longRange smp.dur)
    { s with cs := s.cs.count smp.level (classify s.cs.shortRange s.cs.longRange smp.dur) }

theorem csSample_eq_csChecks (smp : Sample) (s : State) : csSample smp s = csChecks (csCounted smp s) := rfl

theorem csCounted_appends (smp : Sample) (s : State) : Appends (csCounted smp) s := by
  have hcount : Appends (fun x => { x with
      cs := s.cs.count smp.level (classify s.cs.shortRange s.cs.longRange smp.dur) }) s := .of_silent fun _ => rfl
  exact .congr (fun _ => rfl)
    ((csForward_appends smp.level (classify s.cs.shortRange s.cs.longRange smp.dur) _).comp hcount)

theorem csSample_appends (smp : Sample) (s : State) : Appends (csSample smp) s :=
  .congr (csSample_eq_csChecks smp <| s.withTrace ·) ((csChecks_appends _).comp (csCounted_appends smp s))

/-! ## A step of the read path -/

theorem execCsSample_eq_next {s t : State} {level : Level} {dur : Nat} :
    execCsSample level dur s = .next t ↔
      dur < 2 ^ s.latched.durW ∧ s.Configured ∧ t = csSample { dur := dur, level := level } s := by
  by_cases hd : dur < 2 ^ s.latched.durW
  · simp [execCsSample, hd, whenConfigured_eq_next]
  · simp [execCsSample, hd]

/-- No step of the read path touches the configuration inputs, and only `RESET` samples them (R281, R285). -/
theorem exec_readPath_config {r : Instr} {s t : State} (hr : isReadPath r = true) (h : exec r s = .next t) :
    t.cfg = s.cfg ∧ (t.latched = s.latched ∨ r = .reset ∧ t.latched = s.cfg.read) := by
  cases r with
  | csSample level dur =>
    obtain ⟨-, -, rfl⟩ := execCsSample_eq_next.mp h
    obtain ⟨hcfg, hlat, -⟩ := csSample_frame { dur := dur, level := level } s
    exact ⟨hcfg, .inl hlat⟩
  | mdPulse level isLong =>
    obtain ⟨md, hl, -, rfl⟩ := whenManchester_eq_next.mp h
    obtain ⟨hf, -⟩ := linePulse_frame { level := level, isLong := isLong } s
    rw [linePulse, hl] at hf
    exact ⟨hf.cfg, .inl hf.latched⟩
  | bdPulse level isLong =>
    obtain ⟨bd, hl, -, rfl⟩ := whenBiphase_eq_next.mp h
    obtain ⟨hf, -⟩ := linePulse_frame { level := level, isLong := isLong } s
    rw [linePulse, hl] at hf
    exact ⟨hf.cfg, .inl hf.latched⟩
  | mdSyncLost =>
    obtain ⟨md, -, -, rfl⟩ := whenManchester_eq_next.mp h
    exact ⟨rfl, .inl rfl⟩
  | bdSyncLost =>
    obtain ⟨bd, -, -, rfl⟩ := whenBiphase_eq_next.mp h
    exact ⟨rfl, .inl rfl⟩
  | tdBit b =>
    obtain ⟨-, rfl⟩ := whenConfigured_eq_next.mp h
    obtain ⟨hf, -⟩ := tdBit_frame b s
    exact ⟨hf.cfg, .inl hf.latched⟩
  | reset =>
    cases h
    exact ⟨rfl, .inr ⟨rfl, rfl⟩⟩
  | _ => cases hr

/-- A step of the read path does the same, and appends the same events, whatever the record holds. -/
theorem exec_readPath_withTrace {r : Instr} {s t : State} (hr : isReadPath r = true) (h : exec r s = .next t) :
    ∃ l, ∀ tr, exec r (s.withTrace tr) = .next (t.withTrace (tr ++ l)) := by
  cases r with
  | csSample level dur =>
    obtain ⟨hd, hc, rfl⟩ := execCsSample_eq_next.mp h
    obtain ⟨l, hl⟩ := csSample_appends { dur := dur, level := level } s
    exact ⟨l, fun tr => execCsSample_eq_next.mpr ⟨hd, hc, (hl tr).symm⟩⟩
  | mdPulse level isLong =>
    obtain ⟨md, hm, hc, rfl⟩ := whenManchester_eq_next.mp h
    obtain ⟨l, hl⟩ := mdPulse_appends md { level := level, isLong := isLong } s
    exact ⟨l, fun tr => whenManchester_eq_next.mpr ⟨md, hm, hc, (hl tr).symm⟩⟩
  | bdPulse level isLong =>
    obtain ⟨bd, hb, hc, rfl⟩ := whenBiphase_eq_next.mp h
    obtain ⟨l, hl⟩ := bdPulse_appends bd { level := level, isLong := isLong } s
    exact ⟨l, fun tr => whenBiphase_eq_next.mpr ⟨bd, hb, hc, (hl tr).symm⟩⟩
  | mdSyncLost =>
    obtain ⟨md, hm, hc, rfl⟩ := whenManchester_eq_next.mp h
    exact ⟨[], fun tr => whenManchester_eq_next.mpr ⟨md, hm, hc, by rw [List.append_nil]; rfl⟩⟩
  | bdSyncLost =>
    obtain ⟨bd, hb, hc, rfl⟩ := whenBiphase_eq_next.mp h
    exact ⟨[], fun tr => whenBiphase_eq_next.mpr ⟨bd, hb, hc, by rw [List.append_nil]; rfl⟩⟩
  | tdBit b =>
    obtain ⟨hc, rfl⟩ := whenConfigured_eq_next.mp h
    obtain ⟨l, hl⟩ := tdBit_appends b s
    exact ⟨l, fun tr => whenConfigured_eq_next.mpr ⟨hc, (hl tr).symm⟩⟩
  | reset =>
    cases h
    exact ⟨[], fun tr => by rw [List.append_nil]; rfl⟩
  | _ => cases hr

/-- The events appended are what is new in the record of `t`. -/
theorem exec_readPath_appends {r : Instr} {s t : State} (hr : isReadPath r = true) (h : exec r s = .next t) :
    ∃ l, t.trace = s.trace ++ l ∧ ∀ tr, exec r (s.withTrace tr) = .next (t.withTrace (tr ++ l)) := by
  obtain ⟨l, hl⟩ := exec_readPath_withTrace hr h
  have hself := hl s.trace
  rw [State.withTrace_self, h] at hself
  injection hself with hself
  exact ⟨l, congrArg State.trace hself, hl⟩

/-! ## A command of the write path -/

/-- What a TE command puts out for its train: a capacity fault, or the train (R205, R217). -/
def trainResult (c : WriteConfig) (train : List Sample) : Event :=
  match capacityFault c train with
  | some f => .commandFault f
  | none => .train train

theorem sendCommand_eq_withTrace (bits : List Bool) (s : State) :
    sendCommand bits s = s.withTrace (s.trace ++ [trainResult s.cfg.write (trainOf s.cfg.write bits)]) := by
  rw [sendCommand, finishTrain_eq]
  rfl

/-- What `TE.ENCODE_PARAMS` puts out (R219, R223). -/
def paramsResult (c : WriteConfig) (params : ParamsPort) (password : Option Word32) : Event :=
  match params.word? with
  | some word => trainResult c (trainOf c (commandBits false password params.lock word 0))
  | none => .commandFault .invalidParameter

theorem execTeEncodeParams_eq (params : ParamsPort) (passwordSend : Bool) (password : Word32) (s : State) :
    execTeEncodeParams params passwordSend password s = whenDurationsFit s fun s => s.withTrace
      (s.trace ++ [paramsResult s.cfg.write params (if passwordSend then some password else none)]) := by
  unfold execTeEncodeParams paramsResult
  cases params.word? with
  | some word => simp only [sendCommand_eq_withTrace]
  | none => rfl

/-- A command of the write path appends events that depend on the write parameters alone, and does nothing else; those
of TE need the durations to fit (R190, R222, R223, R224). -/
theorem exec_writePath {w : Instr} (hw : isWritePath w = true) :
    ∃ (checksDurations : Prop) (result : WriteConfig → List Event), ∀ s t, exec w s = .next t ↔
      (checksDurations → s.WriteReady) ∧ t = s.withTrace (s.trace ++ result s.cfg.write) := by
  cases w with
  | eeGenerate id token =>
    refine ⟨False, fun _ => [.epromW0 (epromW0 id token), .epromW1 (epromW1 id token)], fun s t => ?_⟩
    simp [exec, execEeGenerate, emit, State.withTrace, eq_comm]
  | teEncodeBlock page block lock passwordSend password dataWord =>
    refine ⟨True, fun c => [trainResult c (trainOf c
      (commandBits page (if passwordSend then some password else none) lock dataWord block))], fun s t => ?_⟩
    simp only [exec, execTeEncodeBlock, whenDurationsFit_eq_next, sendCommand_eq_withTrace, forall_const]
  | teEncodeParams params passwordSend password =>
    refine ⟨True, fun c => [paramsResult c params (if passwordSend then some password else none)], fun s t => ?_⟩
    simp only [exec, execTeEncodeParams_eq, whenDurationsFit_eq_next, forall_const]
  | _ => cases hw

/-! ## The two paths -/

/-- Settles O51: both orders run the read-path step over another record and the command at the same write parameters. -/
theorem readAndWritePathsCommute : Obligations.ReadAndWritePathsCommute := by
  intro r w s t u hr hw
  obtain ⟨checks, result, hexec⟩ := exec_writePath hw
  constructor
  · intro hst htu
    obtain ⟨hready, rfl⟩ := (hexec s t).mp hst
    obtain ⟨hcfg, hlat⟩ := exec_readPath_config hr htu
    obtain ⟨l, hu, hl⟩ := exec_readPath_appends hr htu
    have hready' : checks → (u.withTrace (s.trace ++ l)).WriteReady := fun hch => by
      obtain ⟨hdur, hfit⟩ := hready hch
      refine ⟨?_, by simpa [hcfg] using hfit⟩
      rcases hlat with hlat | ⟨-, hlat⟩
      · simpa [hcfg, hlat] using hdur
      · simp [hcfg, hlat]
    refine ⟨_, _, hl s.trace, (hexec _ _).mpr ⟨hready', rfl⟩, by simp, ?_, ?_⟩
    · rw [newEvents_of_trace (l := l) rfl, newEvents_of_trace hu]
    · rw [newEvents_of_trace rfl, newEvents_of_trace rfl]
      simp [hcfg]
  · intro hreset hst htu
    obtain ⟨hready, rfl⟩ := (hexec t u).mp htu
    obtain ⟨hcfg, hlat⟩ := exec_readPath_config hr hst
    obtain ⟨l, ht, hl⟩ := exec_readPath_appends hr hst
    have hready' : checks → s.WriteReady := fun hch => by
      obtain ⟨hdur, hfit⟩ := hready hch
      rw [hcfg] at hdur hfit
      rcases hlat with hlat | ⟨rfl, -⟩
      · exact ⟨by rw [hdur, hlat], hfit⟩
      · exact ⟨hreset rfl, hfit⟩
    refine ⟨_, _, (hexec _ _).mpr ⟨hready', rfl⟩, hl _, by simp, ?_, ?_⟩
    · rw [newEvents_of_trace rfl, newEvents_of_trace rfl, hcfg]
    · rw [newEvents_of_trace ht, newEvents_of_trace (l := l) rfl]

end Sys2Proof.Machine
end

section
/-! PROOFS. What every stage keeps: TD's and CS's invariants, and that an unsynchronized CORE's line decoder is in its
reset state (R125, R155, R158, R281). -/

namespace Sys2Proof.Machine

/-! ## Token Decoder -/

theorem TDState.reset_inv : TDState.reset.Inv := by decide

/-- A group 0 to 9 is packed into bytes 0 to 4 (R175). -/
theorem Frame.putNibble_b5 (f : Frame) {k : Nat} (hk : k < 5) (high : Bool) (n : Nibble) :
    (f.putNibble k high n).b5 = f.b5 := by
  interval_cases k <;> rfl

theorem tdPreambleBit_inv {b : Bool} {s : State} (h : s.td.Inv) (hm : s.td.mode = .preamble) :
    (tdPreambleBit b s).td.Inv := by
  obtain ⟨hones, hfill, hidx, hb5, hbuf, -, hpre⟩ := h
  cases b with
  | false => exact ⟨Nat.zero_le _, hfill, hidx, hb5, hbuf, fun _ => rfl, hpre⟩
  | true =>
    by_cases h9 : s.td.onesCount + 1 = 9
    · simp only [tdPreambleBit, h9, if_true]
      decide
    · simp only [tdPreambleBit, h9, if_true, if_false]
      exact ⟨by simp only; omega, hfill, hidx, hb5, hbuf, fun hd => by simp [hm] at hd, hpre⟩

/-- A bit shifted in at bit 0 doubles the buffer and adds the bit (R172). -/
theorem nibble_shiftIn_toNat_le : ∀ (n : Nibble) (b : Bool),
    (n <<< 1 ||| (BitVec.ofBool b).setWidth 4).toNat ≤ 2 * n.toNat + 1 := by
  decide

theorem nibble_shiftIn_toNat_lt {n : Nibble} {k : Nat} (b : Bool) (h : n.toNat < 2 ^ k) :
    (n <<< 1 ||| (BitVec.ofBool b).setWidth 4).toNat < 2 ^ (k + 1) := by
  have hle := nibble_shiftIn_toNat_le n b
  rw [pow_succ]
  omega

theorem tdDataBit_inv {b : Bool} {s : State} (h : s.td.Inv) (hm : s.td.mode = .data) (hf : s.td.fill < 4) :
    (tdDataBit b s).td.Inv := by
  obtain ⟨hones, -, hidx, hb5, hbuf, hdata, -⟩ := h
  exact ⟨hones, hf, hidx, hb5, nibble_shiftIn_toNat_lt b hbuf, hdata, fun hp => by simp [tdDataBit, hm] at hp⟩

theorem tdPack_inv {s : State} (h : s.td.Inv) (hm : s.td.mode = .data) (hn : s.td.nibIdx < 10) : (tdPack s).td.Inv := by
  obtain ⟨hones, -, -, hb5, -, hdata, -⟩ := h
  have hb5' : (tdPack s).td.frame.b5 = 0 := by
    rw [← hb5]
    exact Frame.putNibble_b5 _ (by omega) _ _
  exact ⟨hones, Nat.zero_le _, hn, hb5', Nat.one_pos, hdata, fun hp => by simp [tdPack, hm] at hp⟩

/-- After group 10 TD is in its reset state, with a Token or with a fault (R176, R177). -/
@[simp] theorem tdFinish_td (s : State) : (tdFinish s).td = TDState.reset := by
  unfold tdFinish
  split <;> rfl

theorem tdFifthBit_inv {b : Bool} {s : State} (h : s.td.Inv) (hm : s.td.mode = .data) : (tdFifthBit b s).td.Inv := by
  have ⟨_, _, hidx, _⟩ := h
  unfold tdFifthBit
  split
  · exact TDState.reset_inv
  · split
    · exact TDState.reset_inv
    · split
      · rw [tdFinish_td]
        exact TDState.reset_inv
      · exact tdPack_inv h hm (by omega)

theorem tdBit_inv (b : Bool) {s : State} (h : s.td.Inv) : (tdBit b s).td.Inv := by
  cases hm : s.td.mode with
  | preamble =>
    rw [tdBit_preamble hm]
    exact tdPreambleBit_inv h hm
  | data =>
    by_cases hf : s.td.fill < 4
    · rw [tdBit_data hm hf]
      exact tdDataBit_inv h hm hf
    · rw [tdBit_fifth hm hf]
      exact tdFifthBit_inv h hm

/-! ## Line decoders -/

theorem linePulse_td_inv (p : PulseEvent) {s : State} (h : s.td.Inv) : (linePulse p s).td.Inv := by
  obtain ⟨ln, -, heq | ⟨b, heq⟩⟩ := linePulse_cases p s
  · rw [heq]
    exact h
  · rw [heq, deliverBit_td]
    exact tdBit_inv b h

theorem LineState.reset_code (c : ReadConfig) : (LineState.reset c).code = c.lineCode := by
  unfold LineState.reset
  cases c.lineCode <;> rfl

theorem lineAfterLoss_code (c : ReadConfig) (l : LineState) : (lineAfterLoss c l).code = l.code := by
  cases l <;> rfl

/-! ## Carrier Synchronizer -/

theorem CSState.reset_inv (d : Divider) : (CSState.reset d).Inv := by
  cases d <;> decide

/-- CS between the counting of a Sample and the checks after it: one Sample more than between steps (R123 to R126). -/
structure CSState.Counted (c : CSState) : Prop where
  shortRange : c.shortRange = c.divider.shortRange
  longRange : c.longRange = c.divider.longRange
  pulseCount_le : c.pulseCount ≤ 50
  counters_le : c.hiCount + c.loCount + c.errorCount ≤ c.pulseCount
  counters_eq : c.hasSync = false → c.hiCount + c.loCount + c.errorCount = c.pulseCount

theorem CSState.count_none (c : CSState) (level : Level) :
    c.count level .none = { c with pulseCount := c.pulseCount + 1, errorCount := c.errorCount + 1 } := rfl

theorem CSState.count_match_synced {c : CSState} (level : Level) {k : PulseClass} (hk : k ≠ .none) (hs : c.hasSync = true) :
    c.count level k = { c with pulseCount := c.pulseCount + 1 } := by
  cases k <;> simp [CSState.count, hs] at hk ⊢

theorem CSState.count_match_high {c : CSState} {k : PulseClass} (hk : k ≠ .none) (hs : c.hasSync = false) :
    c.count .high k = { c with pulseCount := c.pulseCount + 1, hiCount := c.hiCount + 1 } := by
  cases k <;> simp [CSState.count, hs] at hk ⊢

theorem CSState.count_match_low {c : CSState} {k : PulseClass} (hk : k ≠ .none) (hs : c.hasSync = false) :
    c.count .low k = { c with pulseCount := c.pulseCount + 1, loCount := c.loCount + 1 } := by
  cases k <;> simp [CSState.count, hs] at hk ⊢

@[simp] theorem CSState.count_hasSync (c : CSState) (level : Level) (k : PulseClass) :
    (c.count level k).hasSync = c.hasSync := by
  dsimp only [CSState.count]
  repeat' split
  all_goals rfl

theorem CSState.count_counted {c : CSState} (h : c.Inv) (level : Level) (k : PulseClass) : (c.count level k).Counted := by
  obtain ⟨hshort, hlong, hpulse, -, hle, hunsync⟩ := h
  have hsum (hu : c.hasSync = false) : c.hiCount + c.loCount + c.errorCount = c.pulseCount := (hunsync hu).1
  have hpulse' : c.pulseCount + 1 ≤ 50 := Nat.succ_le_succ hpulse
  by_cases hk : k = .none
  · rw [hk, CSState.count_none]
    exact ⟨hshort, hlong, hpulse', Nat.succ_le_succ hle, fun hu => congrArg Nat.succ (hsum hu)⟩
  cases hs : c.hasSync with
  | true =>
    rw [CSState.count_match_synced level hk hs]
    exact ⟨hshort, hlong, hpulse', Nat.le_succ_of_le hle, fun hu => by simp [hs] at hu⟩
  | false =>
    have hsum := hsum hs
    cases level with
    | high =>
      rw [CSState.count_match_high hk hs]
      exact ⟨hshort, hlong, hpulse', by simp only; omega, fun _ => by simp only; omega⟩
    | low =>
      rw [CSState.count_match_low hk hs]
      exact ⟨hshort, hlong, hpulse', by simp only; omega, fun _ => by simp only; omega⟩

/-- CS after the acquisition check (R129). -/
def CSState.acquired (c : CSState) : CSState := { c with hasSync := c.hasSync || c.acquires }

@[simp] theorem csAcquire_cs (s : State) : (csAcquire s).cs = s.cs.acquired := by
  cases ha : s.cs.acquires <;> simp [csAcquire, CSState.acquired, ha, deliverSyncAcquired]

@[simp] theorem csAcquire_latched (s : State) : (csAcquire s).latched = s.latched := by
  unfold csAcquire; split <;> rfl
@[simp] theorem csAcquire_line (s : State) : (csAcquire s).line = s.line := by
  unfold csAcquire; split <;> rfl
@[simp] theorem csAcquire_td (s : State) : (csAcquire s).td = s.td := by
  unfold csAcquire; split <;> rfl

@[simp] theorem csBoundary_cs (s : State) : (csBoundary s).cs = windowed s.cs := by
  by_cases h : 50 ≤ s.cs.pulseCount <;> simp [csBoundary, windowed, CSState.windowEnds, CSState.clearCounters, h]

@[simp] theorem csBoundary_latched (s : State) : (csBoundary s).latched = s.latched := by
  unfold csBoundary; split <;> rfl
@[simp] theorem csBoundary_line (s : State) : (csBoundary s).line = s.line := by
  unfold csBoundary; split <;> rfl
@[simp] theorem csBoundary_td (s : State) : (csBoundary s).td = s.td := by
  unfold csBoundary; split <;> rfl

theorem CSState.acquires_iff {c : CSState} :
    c.acquires = true ↔ c.hasSync = false ∧ 4 < c.hiCount ∧ 4 < c.loCount ∧ c.errorCount < 4 := by
  simp [CSState.acquires, and_assoc]

theorem CSState.acquired_counted {c : CSState} (h : c.Counted) : c.acquired.Counted :=
  ⟨h.shortRange, h.longRange, h.pulseCount_le, h.counters_le,
    fun hu => h.counters_eq (Bool.or_eq_false_iff.mp hu).1⟩

/-- After its check the acquisition condition does not hold any more. -/
theorem CSState.acquired_not_acquires (c : CSState) : c.acquired.acquires = false := by
  rw [Bool.eq_false_iff]
  intro h
  obtain ⟨hu, hacq⟩ := CSState.acquires_iff.mp h
  obtain ⟨hs, ha⟩ := Bool.or_eq_false_iff.mp hu
  simp [CSState.acquires_iff.mpr ⟨hs, hacq⟩] at ha

@[simp] theorem windowed_hasSync (c : CSState) : (windowed c).hasSync = c.hasSync := by
  unfold windowed; split <;> rfl

/-- The window boundary leads from what holds after the counting to what holds between steps (R130). -/
theorem windowed_inv {c : CSState} (h : c.Counted) (he : c.errorCount ≤ 9) (ha : c.acquires = false) :
    (windowed c).Inv := by
  unfold windowed
  split
  · exact ⟨h.shortRange, h.longRange, Nat.zero_le _, Nat.zero_le _, le_rfl, fun _ => ⟨rfl, by simp⟩⟩
  · refine ⟨h.shortRange, h.longRange, by omega, he, h.counters_le, fun hu => ⟨h.counters_eq hu, fun hacq => ?_⟩⟩
    simp [CSState.acquires_iff.mpr ⟨hu, hacq⟩] at ha

/-- Lost lock leaves CS at the start of a window of the next divider (R127, R128). -/
theorem CSState.lost_inv (c : CSState) : ({ c.clearCounters with hasSync := false }.rotate).Inv :=
  ⟨rfl, rfl, Nat.zero_le _, Nat.zero_le _, le_rfl, fun _ => ⟨rfl, by simp⟩⟩

/-! ### The checks after the counting -/

theorem csChecks_of_lost {s : State} (h : 10 ≤ s.cs.errorCount) : csChecks s =
    { s with cs := { s.cs.clearCounters with hasSync := false }.rotate
             line := lineAfterLoss s.latched s.line
             trace := s.trace ++ [.lost] } := by
  rw [csChecks_eq, if_pos h]

theorem csChecks_of_kept {s : State} (h : ¬ 10 ≤ s.cs.errorCount) : csChecks s = csBoundary (csAcquire s) := by
  rw [csChecks_eq, if_neg h]

theorem csChecks_inv {s : State} (hcs : s.cs.Counted) (htd : s.td.Inv) (hcode : s.line.code = s.latched.lineCode) :
    (csChecks s).Inv := by
  by_cases he : 10 ≤ s.cs.errorCount
  · rw [csChecks_of_lost he]
    exact ⟨CSState.lost_inv _, htd, (lineAfterLoss_code _ _).trans hcode⟩
  · rw [csChecks_of_kept he]
    refine ⟨?_, by simpa using htd, by simpa using hcode⟩
    rw [csBoundary_cs, csAcquire_cs]
    exact windowed_inv (CSState.acquired_counted hcs) (show s.cs.errorCount ≤ 9 by omega) (CSState.acquired_not_acquires _)

/-- CS ends unsynchronized by a SyncLost, which resets the decoder, or because it was before (R127, R129). -/
theorem csChecks_line_reset {s : State} (hcode : s.line.code = s.latched.lineCode)
    (hline : s.cs.hasSync = false → s.line = LineState.reset s.latched) (hu : (csChecks s).cs.hasSync = false) :
    (csChecks s).line = LineState.reset (csChecks s).latched := by
  by_cases he : 10 ≤ s.cs.errorCount
  · rw [csChecks_of_lost he]
    exact lineAfterLoss_eq_reset hcode
  · rw [csChecks_of_kept he] at hu ⊢
    simp only [csBoundary_cs, csAcquire_cs, windowed_hasSync, CSState.acquired, Bool.or_eq_false_iff] at hu
    simpa using hline hu.1

/-! ### A whole Sample -/

theorem csForward_cases (level : Level) (k : PulseClass) (s : State) :
    csForward level k s = s ∨ ∃ p, csForward level k s = deliverPulse p s := by
  by_cases hk : k = .none
  · exact .inl (hk ▸ csForward_none level s)
  cases hs : s.cs.hasSync with
  | false => exact .inl (csForward_of_unsync level k hs)
  | true => exact .inr ⟨_, csForward_match level hs hk⟩

theorem csForward_td_inv (level : Level) (k : PulseClass) {s : State} (h : s.td.Inv) : (csForward level k s).td.Inv := by
  obtain heq | ⟨p, heq⟩ := csForward_cases level k s
  · rwa [heq]
  · rw [heq]
    exact linePulse_td_inv p h

theorem csForward_line_code (level : Level) (k : PulseClass) (s : State) :
    (csForward level k s).line.code = s.line.code := by
  obtain heq | ⟨p, heq⟩ := csForward_cases level k s
  · rw [heq]
  · rw [heq]
    exact (linePulse_frame p (emit (.pulse p) s)).2

theorem csCounted_cs (smp : Sample) (s : State) :
    (csCounted smp s).cs = s.cs.count smp.level (classify s.cs.shortRange s.cs.longRange smp.dur) :=
  (csForward_frame _ _ _).cs

theorem csCounted_latched (smp : Sample) (s : State) : (csCounted smp s).latched = s.latched :=
  (csForward_frame _ _ _).latched

theorem csCounted_line_code (smp : Sample) (s : State) : (csCounted smp s).line.code = s.line.code :=
  csForward_line_code _ _ _

/-- While unsynchronized nothing is forwarded, so the decoder keeps its state (R123, R125). -/
theorem csCounted_line_of_unsync (smp : Sample) {s : State} (hu : s.cs.hasSync = false) :
    (csCounted smp s).line = s.line := by
  rw [csCounted, csForward_of_unsync _ _ (by simpa using hu)]

theorem csSample_inv (smp : Sample) {s : State} (h : s.Inv) : (csSample smp s).Inv := by
  obtain ⟨hcs, htd, hcode⟩ := h
  rw [csSample_eq_csChecks]
  refine csChecks_inv ?_ (csForward_td_inv _ _ htd) ?_
  · rw [csCounted_cs]
    exact CSState.count_counted hcs _ _
  · rwa [csCounted_line_code, csCounted_latched]

theorem csSample_closedInv (smp : Sample) {s : State} (h : s.ClosedInv) : (csSample smp s).ClosedInv := by
  obtain ⟨hinv, hline⟩ := h
  refine ⟨csSample_inv smp hinv, csChecks_line_reset (s := csCounted smp s) ?_ fun hu => ?_⟩
  · rw [csCounted_line_code, csCounted_latched]
    obtain ⟨-, -, hcode⟩ := hinv
    exact hcode
  · rw [csCounted_cs, CSState.count_hasSync] at hu
    rw [csCounted_line_of_unsync smp hu, csCounted_latched]
    exact hline hu

/-! ## Reset, and the steps that keep the state of CORE -/

theorem resetCore_closedInv (s : State) : (resetCore s).ClosedInv :=
  ⟨⟨CSState.reset_inv _, TDState.reset_inv, LineState.reset_code _⟩, fun _ => rfl⟩

theorem State.reset_closedInv : State.reset.ClosedInv := resetCore_closedInv State.reset

/-- The invariants speak of the state of CORE alone. -/
theorem State.ClosedInv.of_core_eq {s t : State} (hcore : t.core = s.core) (h : s.ClosedInv) : t.ClosedInv := by
  simp only [State.core, Prod.mk.injEq] at hcore
  obtain ⟨hcs, hline, htd, hlat⟩ := hcore
  simpa [State.ClosedInv, State.Inv, hcs, hline, htd, hlat] using h

/-! ## The three kinds of step -/

theorem stepKind_eq_sample_iff {i : Instr} : stepKind i = some .sample ↔ ∃ level dur, i = .csSample level dur := by
  constructor
  · cases i <;> simp [stepKind]
  · rintro ⟨level, dur, rfl⟩
    rfl

theorem stepKind_eq_writeCommand_iff {i : Instr} : stepKind i = some .writeCommand ↔
    (∃ id token, i = .eeGenerate id token) ∨
      (∃ page block lock pws password dataWord, i = .teEncodeBlock page block lock pws password dataWord) ∨
      (∃ params pws password, i = .teEncodeParams params pws password) := by
  constructor
  · cases i <;> simp [stepKind]
  · rintro (⟨id, token, rfl⟩ | ⟨page, block, lock, pws, password, dataWord, rfl⟩ | ⟨params, pws, password, rfl⟩) <;> rfl

theorem stepKind_eq_reset_iff {i : Instr} : stepKind i = some .reset ↔ i = .reset := by
  constructor
  · cases i <;> simp [stepKind]
  · rintro rfl
    rfl

theorem isWritePath_of_stepKind {i : Instr} (h : stepKind i = some .writeCommand) : isWritePath i = true := by
  obtain ⟨id, token, rfl⟩ | ⟨page, block, lock, pws, password, dataWord, rfl⟩ | ⟨params, pws, password, rfl⟩ :=
    stepKind_eq_writeCommand_iff.mp h <;> rfl

theorem coreStep_of_decode_ok {s : State} {w : PortWord} {rest : List PortWord} {i : Instr} (hs : s.inbox = w :: rest)
    (hd : decode s.config w = .ok i) :
    coreStep s = if (stepKind i).isSome then exec i { s with inbox := rest } else .refused .partOfAStep := by
  rw [coreStep, waitsPartOfAStep_of_decode hs hd, step_of_decode_ok hs hd]
  cases stepKind i <;> rfl

/-- One transaction of R13's three kinds keeps the closed CORE's invariant. -/
theorem exec_closedInv {i : Instr} {k : StepKind} {s t : State} (hk : stepKind i = some k) (h : s.ClosedInv)
    (hexec : exec i s = .next t) : t.ClosedInv := by
  cases k with
  | sample =>
    obtain ⟨level, dur, rfl⟩ := stepKind_eq_sample_iff.mp hk
    obtain ⟨-, -, rfl⟩ := execCsSample_eq_next.mp hexec
    exact csSample_closedInv _ h
  | writeCommand =>
    obtain ⟨checks, result, hiff⟩ := exec_writePath (isWritePath_of_stepKind hk)
    obtain ⟨-, rfl⟩ := (hiff s t).mp hexec
    exact h.of_core_eq rfl
  | reset =>
    obtain rfl := stepKind_eq_reset_iff.mp hk
    cases hexec
    exact resetCore_closedInv s

theorem coreStep_closedInv {s t : State} (h : s.ClosedInv) (hstep : coreStep s = .next t) : t.ClosedInv := by
  obtain ⟨-, rfl⟩ | ⟨w, rest, i, k, -, -, hk, hexec⟩ := coreStep_next hstep
  · exact h
  · exact exec_closedInv hk (s := { s with inbox := rest }) (h.of_core_eq rfl) hexec

/-- Settles O57: the kinds by the table `stepKind`, the invariant by what each kind of step does. -/
theorem coreTakesThreeKindsOfStep : Obligations.CoreTakesThreeKindsOfStep :=
  ⟨fun _ => ⟨stepKind_eq_sample_iff, stepKind_eq_writeCommand_iff, stepKind_eq_reset_iff⟩,
    fun _ _ _ _ => coreStep_of_decode_ok, fun _ _ => coreStep_closedInv, State.reset_closedInv⟩

end Sys2Proof.Machine
end

section
/-! PROOFS. The machine invariant: what each operation of a stage does to it, and that the rows which act on no stage keep
the state of CORE (R13, R23 to R36, R151). The values that `RESET` gives (R45, R281). -/

namespace Sys2Proof.Machine

/-! ## What the invariant speaks of -/

/-- The invariant speaks of the state of CORE alone. -/
theorem State.Inv.of_core_eq {s t : State} (hcore : t.core = s.core) (h : s.Inv) : t.Inv := by
  simp only [State.core, Prod.mk.injEq] at hcore
  obtain ⟨hcs, hline, htd, hlat⟩ := hcore
  simpa [State.Inv, hcs, hline, htd, hlat] using h

/-- An operation that leaves CS and the sampled configuration alone has to keep TD's invariant and the line code. -/
theorem State.Inv.of_sameButDecoders {s t : State} (hframe : SameButDecoders s t) (hcode : t.line.code = s.line.code)
    (htd : t.td.Inv) (h : s.Inv) : t.Inv := by
  obtain ⟨hcs, -, hline⟩ := h
  refine ⟨?_, htd, ?_⟩
  · rwa [hframe.cs]
  · rwa [hcode, hframe.latched]

/-! ## Token Decoder -/

theorem tdBit_stateInv (b : Bool) {s : State} (h : s.Inv) : (tdBit b s).Inv := by
  obtain ⟨hframe, hline⟩ := tdBit_frame b s
  have ⟨_, htd, _⟩ := h
  exact h.of_sameButDecoders hframe (congrArg LineState.code hline) (tdBit_inv b htd)

theorem tdBits_stateInv (bits : List Bool) {s : State} (h : s.Inv) : (tdBits bits s).Inv := by
  induction bits generalizing s with
  | nil => exact h
  | cons b rest ih => exact ih (tdBit_stateInv b h)

/-! ## Line decoders -/

theorem linePulse_of_manchester {s : State} {md : MDState} (p : PulseEvent) (hl : s.line = .manchester md) :
    linePulse p s = mdPulse md p s := by
  simp [linePulse, hl]

theorem linePulse_of_biphase {s : State} {bd : BDState} (p : PulseEvent) (hl : s.line = .biphase bd) :
    linePulse p s = bdPulse bd p s := by
  simp [linePulse, hl]

theorem lineSyncLost_of_manchester {s : State} {md : MDState} (hl : s.line = .manchester md) :
    lineSyncLost s = mdSyncLost s := by
  simp [lineSyncLost, hl]

theorem lineSyncLost_of_biphase {s : State} {bd : BDState} (hl : s.line = .biphase bd) :
    lineSyncLost s = bdSyncLost s := by
  simp [lineSyncLost, hl]

theorem linePulse_stateInv (p : PulseEvent) {s : State} (h : s.Inv) : (linePulse p s).Inv := by
  obtain ⟨hframe, hcode⟩ := linePulse_frame p s
  have ⟨_, htd, _⟩ := h
  exact h.of_sameButDecoders hframe hcode (linePulse_td_inv p htd)

/-- A SyncLost resets the decoder that is there and leaves CS and TD alone (R155, R158, R180). -/
theorem lineSyncLost_stateInv {s : State} (h : s.Inv) : (lineSyncLost s).Inv := by
  obtain ⟨hcs, htd, hcode⟩ := h
  cases hl : s.line with
  | manchester md =>
    rw [hl] at hcode
    rw [lineSyncLost_of_manchester hl]
    exact ⟨hcs, htd, hcode⟩
  | biphase bd =>
    rw [hl] at hcode
    rw [lineSyncLost_of_biphase hl]
    exact ⟨hcs, htd, hcode⟩

theorem deliverSyncLost_stateInv {s : State} (h : s.Inv) : (deliverSyncLost s).Inv :=
  lineSyncLost_stateInv (s := emit .lost s) (h.of_core_eq rfl)

/-! ## One instruction -/

/-- The rows that act on a stage of CORE: the read path, a SyncLost (R69), a frame on the air (R199). -/
def actsOnStages : Instr → Bool
  | .syncLost => true
  | .em4100Frame .. => true
  | i => isReadPath i

theorem finishTrain_core (l : List Sample) (s : State) : (finishTrain l s).core = s.core := by
  rw [finishTrain_eq]
  rfl

theorem sendCommand_core (bits : List Bool) (s : State) : (sendCommand bits s).core = s.core := finishTrain_core _ s

theorem exec_writePath_core {i : Instr} {s t : State} (hi : isWritePath i = true) (h : exec i s = .next t) :
    t.core = s.core := by
  obtain ⟨checks, result, hiff⟩ := exec_writePath hi
  obtain ⟨-, rfl⟩ := (hiff s t).mp h
  rfl

/-- A row that acts on no stage puts something out, and keeps the state of CORE. -/
theorem exec_core_of_not_actsOnStages {i : Instr} {s t : State} (hi : actsOnStages i = false) (h : exec i s = .next t) :
    t.core = s.core := by
  cases i with
  | eeGenerate | teEncodeBlock | teEncodeParams => exact exec_writePath_core (by rfl) h
  | t5557CmdShort | t5557CmdLong =>
    obtain ⟨-, ht⟩ := whenDurationsFit_eq_next.mp h
    rw [ht, sendCommand_core]
  | train =>
    obtain ⟨-, ht⟩ := whenDurationsFit_eq_next.mp h
    rw [ht, finishTrain_core]
  | csSample | mdPulse | mdSyncLost | bdPulse | bdSyncLost | tdBit | reset | syncLost | em4100Frame => cases hi
  | _ =>
    cases h
    rfl

theorem exec_inv_of_actsOnStages {i : Instr} {s t : State} (hi : actsOnStages i = true) (h : s.Inv)
    (hexec : exec i s = .next t) : t.Inv := by
  cases i with
  | csSample level dur =>
    obtain ⟨-, -, rfl⟩ := execCsSample_eq_next.mp hexec
    exact csSample_inv _ h
  | mdPulse level isLong =>
    obtain ⟨md, hl, -, rfl⟩ := whenManchester_eq_next.mp hexec
    exact linePulse_of_manchester _ hl ▸ linePulse_stateInv _ h
  | bdPulse level isLong =>
    obtain ⟨bd, hl, -, rfl⟩ := whenBiphase_eq_next.mp hexec
    exact linePulse_of_biphase _ hl ▸ linePulse_stateInv _ h
  | mdSyncLost =>
    obtain ⟨md, hl, -, rfl⟩ := whenManchester_eq_next.mp hexec
    exact lineSyncLost_of_manchester hl ▸ lineSyncLost_stateInv h
  | bdSyncLost =>
    obtain ⟨bd, hl, -, rfl⟩ := whenBiphase_eq_next.mp hexec
    exact lineSyncLost_of_biphase hl ▸ lineSyncLost_stateInv h
  | tdBit b =>
    obtain ⟨-, rfl⟩ := whenConfigured_eq_next.mp hexec
    exact tdBit_stateInv b h
  | reset =>
    cases hexec
    obtain ⟨hinv, -⟩ := resetCore_closedInv s
    exact hinv
  | syncLost =>
    obtain ⟨-, rfl⟩ := whenConfigured_eq_next.mp hexec
    exact deliverSyncLost_stateInv h
  | em4100Frame id token rows column =>
    obtain ⟨-, ht⟩ := whenConfigured_eq_next.mp hexec
    rw [ht]
    exact tdBits_stateInv _ h
  | _ => cases hi

theorem exec_inv {i : Instr} {s t : State} (h : s.Inv) (hexec : exec i s = .next t) : t.Inv := by
  cases hi : actsOnStages i with
  | true => exact exec_inv_of_actsOnStages hi h hexec
  | false => exact h.of_core_eq (exec_core_of_not_actsOnStages hi hexec)

/-! ## One step -/

/-- Everything a step can do: nothing, with no transaction waiting; the waiting transaction is consumed without effect
(R162); or the instruction it decodes to is run. -/
theorem step_next {s t : State} (h : step s = .next t) :
    (s.inbox = [] ∧ t = s) ∨
    ∃ w rest, s.inbox = w :: rest ∧
      (t = { s with inbox := rest } ∨ ∃ i, decode s.config w = .ok i ∧ exec i { s with inbox := rest } = .next t) := by
  cases hs : s.inbox with
  | nil =>
    rw [step_of_inbox_nil hs] at h
    cases h
    exact .inl ⟨rfl, rfl⟩
  | cons w rest =>
    refine .inr ⟨w, rest, rfl, ?_⟩
    cases hd : decode s.config w with
    | error r =>
      rw [step_of_decode_error hs hd] at h
      obtain ⟨rfl, -⟩ := takeUnlisted_next h
      exact .inl rfl
    | ok i =>
      rw [step_of_decode_ok hs hd] at h
      exact .inr ⟨i, rfl, h⟩

/-- Settles O6: consuming the transaction keeps the state of CORE, and the instruction it decodes to keeps the invariant. -/
theorem stepKeepsInvariant : Obligations.StepKeepsInvariant := by
  intro s t h hstep
  obtain ⟨-, rfl⟩ | ⟨w, rest, -, rfl | ⟨i, -, hexec⟩⟩ := step_next hstep
  · exact h
  · exact h.of_core_eq rfl
  · exact exec_inv (s := { s with inbox := rest }) (h.of_core_eq rfl) hexec

/-! ## Reset -/

/-- Settles O7: the reset state meets even the closed CORE's invariant. -/
theorem resetStateMeetsInvariant : Obligations.ResetStateMeetsInvariant :=
  have ⟨hinv, _⟩ := State.reset_closedInv
  hinv

theorem LineState.reset_eq_ite (c : ReadConfig) : LineState.reset c =
    if c.lineCode = .manchester then .manchester { lastOutput := c.mdResetOutput, timerRunning := false }
    else .biphase { lastWasShort := false } := by
  unfold LineState.reset
  cases c.lineCode <;> rfl

/-- Settles O52, the decoder by its line code and every other element by the definition of `RESET`. -/
theorem resetGivesEveryElementItsResetValue : Obligations.ResetGivesEveryElementItsResetValue := by
  intro s
  rw [← LineState.reset_eq_ite]
  rfl

end Sys2Proof.Machine
end

section
/-! PROOFS. The row `SYNC.LOST`: a SyncLost on CORE's sync port (R83, R107). -/

namespace Sys2Proof.Machine

/-- Settles O55: under the sampled configuration the row delivers one SyncLost, which appears and resets the line decoder
that is there (R155, R158). -/
theorem syncLostResetsTheDecoderAndNotTD : Obligations.SyncLostResetsTheDecoderAndNotTD := by
  intro s hconfigured
  calc exec .syncLost s
      = whenConfigured s deliverSyncLost := rfl
    _ = .next (deliverSyncLost s) := whenConfigured_of _ hconfigured
    _ = .next { s with line := lineAfterLoss s.latched s.line, trace := s.trace ++ [.lost] } := by
      rw [deliverSyncLost_eq]

end Sys2Proof.Machine
end

section
/-! PROOFS. The words of R86, R87, R90 and R96 as concatenations of their fields: their bits least significant first, and
where each field lies. -/

namespace Sys2Proof
open Machine

/-! ## Reversals and parity -/

theorem rev4_rev4 : ∀ n : Nibble, rev4 (rev4 n) = n := by decide

theorem parity4_rev4 : ∀ n : Nibble, parity4 (rev4 n) = parity4 n := by decide

theorem rev4_xor : ∀ a b : Nibble, rev4 (a ^^^ b) = rev4 a ^^^ rev4 b := by decide

theorem rev3_rev3 : ∀ b : BitVec 3, rev3 (rev3 b) = b := by decide

/-- Settles O37, the tables by evaluation and the laws of `rev4` by lemmas of their own. -/
theorem reversalAndParityTables : Obligations.ReversalAndParityTables :=
  ⟨by decide, by decide, fun a b => ⟨rev4_rev4 a, parity4_rev4 a, rev4_xor a b⟩⟩

/-! ## Bits least significant first -/

@[simp] theorem length_lsbFirst {w : Nat} (v : BitVec w) : (lsbFirst v).length = w := by
  simp [lsbFirst]

theorem getElem?_lsbFirst {w k : Nat} (v : BitVec w) (h : k < w) : (lsbFirst v)[k]? = some (v.getLsbD k) := by
  simp [lsbFirst, h]

@[simp] theorem length_msbFirst {w : Nat} (v : BitVec w) : (msbFirst v).length = w := by
  simp [msbFirst]

theorem getElem?_msbFirst {w k : Nat} (v : BitVec w) (h : k < w) :
    (msbFirst v)[k]? = some (v.getLsbD (w - 1 - k)) := by
  rw [msbFirst, List.getElem?_reverse (by simpa using h), length_lsbFirst, getElem?_lsbFirst v (by omega)]

/-- The low word of a concatenation comes first. -/
theorem lsbFirst_append {m n : Nat} (x : BitVec m) (y : BitVec n) : lsbFirst (x ++ y) = lsbFirst y ++ lsbFirst x := by
  have hlow : (List.range n).map (x ++ y).getLsbD = lsbFirst y :=
    List.map_congr_left fun i hi => by simp [BitVec.getLsbD_append, List.mem_range.mp hi]
  have hhigh : (List.range m).map ((x ++ y).getLsbD ∘ (n + ·)) = lsbFirst x :=
    List.map_congr_left fun i _ => by simp [BitVec.getLsbD_append]
  calc lsbFirst (x ++ y)
      = (List.range (n + m)).map (x ++ y).getLsbD := congrArg (List.map _ ∘ List.range) (Nat.add_comm m n)
    _ = lsbFirst y ++ lsbFirst x := by rw [List.range_add, List.map_append, List.map_map, hlow, hhigh]

/-- A bit above the top one is 0. -/
theorem lsbFirst_setWidth_succ {w : Nat} (x : BitVec w) : lsbFirst (x.setWidth (w + 1)) = lsbFirst x ++ [false] := by
  have hlow : (List.range w).map (x.setWidth (w + 1)).getLsbD = lsbFirst x :=
    List.map_congr_left fun i hi => by simp [Nat.lt_succ_of_lt (List.mem_range.mp hi)]
  rw [lsbFirst, List.range_succ, List.map_append, hlow]
  simp

/-- A word is its lower half and then its upper half. -/
theorem lsbFirst_halves (v : BitVec 64) :
    lsbFirst (v.extractLsb' 0 32) ++ lsbFirst (v.extractLsb' 32 32) = lsbFirst v := by
  rw [← lsbFirst_append, BitVec.extractLsb'_append_extractLsb'_eq_extractLsb' (Nat.zero_add 32).symm,
    BitVec.extractLsb'_eq_self]

theorem lsbFirst_reverse {w : Nat} (x : BitVec w) : lsbFirst x.reverse = msbFirst x := by
  refine List.ext_getElem? fun k => ?_
  by_cases hk : k < w
  · rw [getElem?_lsbFirst _ hk, getElem?_msbFirst _ hk, BitVec.getLsbD_reverse, BitVec.getMsbD]
    simp [hk]
  · simp [hk]

theorem lsbFirst_ofBool (b : Bool) : lsbFirst (BitVec.ofBool b) = [b] := by cases b <;> rfl

theorem lsbFirst_rev4 : ∀ n : Nibble, lsbFirst (rev4 n) = msbFirst n := by decide

theorem lsbFirst_rev3 : ∀ b : BitVec 3, lsbFirst (rev3 b) = msbFirst b := by decide

theorem lsbFirst_one : lsbFirst (1 : BitVec 1) = [true] := by rfl

theorem lsbFirst_preamble : lsbFirst (0x1FF : BitVec 9) = List.replicate 9 true := by rfl

/-! ## Bits and fields of a concatenation -/

/-- A bit of the low part of a concatenation. -/
theorem getLsbD_append_low {m n i : Nat} {x : BitVec m} {y : BitVec n} (h : i < n) :
    (x ++ y).getLsbD i = y.getLsbD i := by
  rw [BitVec.getLsbD_append, if_pos h]

/-- A bit of the high part of a concatenation. -/
theorem getLsbD_append_high {m n i : Nat} {x : BitVec m} {y : BitVec n} (h : n ≤ i) :
    (x ++ y).getLsbD i = x.getLsbD (i - n) := by
  rw [BitVec.getLsbD_append, if_neg (Nat.not_lt.mpr h)]

/-! ## Frames bit by bit -/

theorem lsbFirst_frameWord (id : Byte) (token : Word32) (rows : BitVec 10) (column : Nibble) :
    lsbFirst (frameWord id token rows column) = airFrame id token rows column := by
  simp only [frameWord, lsbFirst_append, lsbFirst_ofBool, lsbFirst_rev4, lsbFirst_preamble]
  simp [airFrame, nibblesOf]

theorem lsbFirst_cmdShortWord (page lock : Bool) (dataWord : Word32) (block : BitVec 3) :
    lsbFirst (cmdShortWord page lock dataWord block) = commandBits page none lock dataWord block := by
  simp only [cmdShortWord, lsbFirst_append, lsbFirst_ofBool, lsbFirst_rev3, lsbFirst_one]
  simp [commandBits, opcodeBits, blockBits]

theorem lsbFirst_cmdLongWord (page : Bool) (password : Word32) (lock : Bool) (dataWord : Word32) (block : BitVec 3) :
    lsbFirst (cmdLongWord page password lock dataWord block) = commandBits page (some password) lock dataWord block := by
  simp only [cmdLongWord, lsbFirst_append, lsbFirst_ofBool, lsbFirst_rev3, lsbFirst_one, lsbFirst_reverse]
  simp [commandBits, opcodeBits, blockBits]

/-- Settles O5: the bits of a concatenation are those of its fields, lowest field first, and a field that lies reversed
gives its bits most significant first. -/
theorem frameWordsHoldTheAirOrder : Obligations.FrameWordsHoldTheAirOrder :=
  ⟨lsbFirst_frameWord, lsbFirst_cmdShortWord, lsbFirst_cmdLongWord⟩

/-! ## The image that `EE.GENERATE` computes -/

/-- One turn of the loop puts its group above what the image holds already (R198). -/
theorem imageStep_of_low {w : Nat} (low : BitVec w) (acc n : Nibble) :
    imageStep { image := low.setWidth 64, pos := w, acc := acc } n =
      { image := (imageGroup n ++ low).setWidth 64, pos := w + 5, acc := acc ^^^ n } := by
  rw [imageStep, BitVec.setWidth_append_eq_shiftLeft_setWidth_or, BitVec.or_comm]

theorem lsbFirst_imageGroup : ∀ n : Nibble, lsbFirst (imageGroup n) = msbFirst n ++ [parity4 n] := by decide

/-- The ten turns and the column nibble on top of them (R198) are the valid frame from its first bit on the air (R196). -/
theorem lsbFirst_epromImage (id : Byte) (token : Word32) : lsbFirst (epromImage id token) = validFrame id token := by
  have hpreamble : (0x1FF : BitVec 64) = (0x1FF : BitVec 9).setWidth 64 := rfl
  simp only [epromImage, nibblesOf, List.foldl, hpreamble, imageStep_of_low]
  rw [BitVec.or_comm, ← BitVec.setWidth_append_eq_shiftLeft_setWidth_or, lsbFirst_setWidth_succ]
  simp only [lsbFirst_append, lsbFirst_rev4, lsbFirst_imageGroup, lsbFirst_preamble]
  simp only [validFrame, airFrame, rowsOf, BitVec.getLsbD_append]
  simp [nibblesOf, columnOf]

/-! ## Where the fields lie -/

theorem epromW0Word_fields (e : BitVec 3) (p3 : Bool) (d : Nibble) (p2 : Bool) (c : Nibble) (p1 : Bool) (b : Nibble)
    (p0 : Bool) (a : Nibble) (w : Word32) (hw : w = epromW0Word e p3 d p2 c p1 b p0 a) :
    w.extractLsb' 29 3 = e ∧ w.getLsbD 28 = p3 ∧ w.extractLsb' 24 4 = d ∧ w.getLsbD 23 = p2 ∧ w.extractLsb' 19 4 = c ∧
    w.getLsbD 18 = p1 ∧ w.extractLsb' 14 4 = b ∧ w.getLsbD 13 = p0 ∧ w.extractLsb' 9 4 = a ∧ w.extractLsb' 0 9 = 0x1FF := by
  rw [hw, epromW0Word]
  simp (disch := omega) only [getLsbD_append_low, getLsbD_append_high, BitVec.extractLsb'_append_eq_of_le,
    BitVec.extractLsb'_append_eq_of_add_le]
  simp

theorem epromW1Word_fields (q : Nibble) (p9 : Bool) (n9 : Nibble) (p8 : Bool) (n8 : Nibble) (p7 : Bool) (n7 : Nibble)
    (p6 : Bool) (n6 : Nibble) (p5 : Bool) (n5 : Nibble) (p4 : Bool) (e : Bool) (w : Word32)
    (hw : w = epromW1Word q p9 n9 p8 n8 p7 n7 p6 n6 p5 n5 p4 e) :
    w.getLsbD 31 = false ∧ w.extractLsb' 27 4 = q ∧ w.getLsbD 26 = p9 ∧ w.extractLsb' 22 4 = n9 ∧ w.getLsbD 21 = p8 ∧
    w.extractLsb' 17 4 = n8 ∧ w.getLsbD 16 = p7 ∧ w.extractLsb' 12 4 = n7 ∧ w.getLsbD 11 = p6 ∧
    w.extractLsb' 7 4 = n6 ∧ w.getLsbD 6 = p5 ∧ w.extractLsb' 2 4 = n5 ∧ w.getLsbD 1 = p4 ∧ w.getLsbD 0 = e := by
  rw [hw, epromW1Word]
  simp (disch := omega) only [getLsbD_append_low, getLsbD_append_high, BitVec.extractLsb'_append_eq_of_le,
    BitVec.extractLsb'_append_eq_of_add_le]
  simp

theorem cmdShortWord_fields (page lock : Bool) (dataWord : Word32) (block : BitVec 3) (w : BitVec 38)
    (hw : w = cmdShortWord page lock dataWord block) :
    w.getLsbD 0 = true ∧ w.getLsbD 1 = page ∧ w.getLsbD 2 = lock ∧ w.extractLsb' 3 32 = dataWord ∧
    w.extractLsb' 35 3 = rev3 block := by
  rw [hw, cmdShortWord]
  simp (disch := omega) only [getLsbD_append_low, getLsbD_append_high, BitVec.extractLsb'_append_eq_of_le,
    BitVec.extractLsb'_append_eq_of_add_le]
  simp

theorem cmdLongWord_fields (page : Bool) (password : Word32) (lock : Bool) (dataWord : Word32) (block : BitVec 3)
    (w : BitVec 70) (hw : w = cmdLongWord page password lock dataWord block) :
    w.getLsbD 0 = true ∧ w.getLsbD 1 = page ∧ w.extractLsb' 2 32 = password.reverse ∧
    w.getLsbD 34 = lock ∧ w.extractLsb' 35 32 = dataWord ∧ w.extractLsb' 67 3 = rev3 block := by
  rw [hw, cmdLongWord]
  simp (disch := omega) only [getLsbD_append_low, getLsbD_append_high, BitVec.extractLsb'_append_eq_of_le,
    BitVec.extractLsb'_append_eq_of_add_le]
  simp

/-- The fields shifted to their places are one concatenation of the fields and the reserved zeros (R96, R214). -/
theorem configWord_eq_append (masterKey : BitVec 4) (rate : DataRate) (modulation : Modulation) (psk : PskSubcarrier)
    (aor : Bool) (maxBlock : BitVec 3) (pw st por : Bool) :
    configWord masterKey rate modulation psk aor maxBlock pw st por =
      masterKey ++ (0 : BitVec 7) ++ rate.code ++ (0 : BitVec 1) ++ modulation.code ++ psk.code ++ BitVec.ofBool aor
        ++ (0 : BitVec 1) ++ maxBlock ++ BitVec.ofBool pw ++ BitVec.ofBool st ++ (0 : BitVec 2) ++ BitVec.ofBool por := by
  refine BitVec.eq_of_getLsbD_eq fun i hi => ?_
  interval_cases i
  all_goals
    simp (disch := omega) only [getLsbD_append_low, getLsbD_append_high]
    simp [configWord]

theorem configWord_fields (masterKey : BitVec 4) (rate : DataRate) (modulation : Modulation) (psk : PskSubcarrier)
    (aor : Bool) (maxBlock : BitVec 3) (pw st por : Bool) (w : Word32)
    (hw : w = configWord masterKey rate modulation psk aor maxBlock pw st por) :
    w.extractLsb' 28 4 = masterKey ∧ w.extractLsb' 21 7 = 0 ∧ w.extractLsb' 18 3 = rate.code ∧ w.getLsbD 17 = false ∧
    w.extractLsb' 12 5 = modulation.code ∧ w.extractLsb' 10 2 = psk.code ∧ w.getLsbD 9 = aor ∧ w.getLsbD 8 = false ∧
    w.extractLsb' 5 3 = maxBlock ∧ w.getLsbD 4 = pw ∧ w.getLsbD 3 = st ∧ w.extractLsb' 1 2 = 0 ∧ w.getLsbD 0 = por := by
  rw [hw, configWord_eq_append]
  simp (disch := omega) only [getLsbD_append_low, getLsbD_append_high, BitVec.extractLsb'_append_eq_of_le,
    BitVec.extractLsb'_append_eq_of_add_le]
  simp

/-- The mask of the reserved bits, cut where the fields of the configuration word are. -/
theorem configWordReserved_eq_append : configWordReserved =
    (0 : BitVec 4) ++ BitVec.allOnes 7 ++ (0 : BitVec 3) ++ BitVec.allOnes 1 ++ (0 : BitVec 5) ++ (0 : BitVec 2)
      ++ (0 : BitVec 1) ++ BitVec.allOnes 1 ++ (0 : BitVec 3) ++ (0 : BitVec 1) ++ (0 : BitVec 1) ++ BitVec.allOnes 2
      ++ (0 : BitVec 1) := by decide

theorem configWord_and_reserved (masterKey : BitVec 4) (rate : DataRate) (modulation : Modulation) (psk : PskSubcarrier)
    (aor : Bool) (maxBlock : BitVec 3) (pw st por : Bool) :
    configWord masterKey rate modulation psk aor maxBlock pw st por &&& configWordReserved = 0 := by
  rw [configWord_eq_append, configWordReserved_eq_append]
  iterate 12 rw [BitVec.and_append]
  simp

/-- Settles O46, each field read off the concatenation. -/
theorem configurationWordFields : Obligations.ConfigurationWordFields := configWord_fields

/-- Group `j` of a frame, un-reversed, is data nibble `j`, and group 10 the column nibble (R86, R87). -/
theorem frameWord_nibbles (id : Byte) (token : Word32) (rows : BitVec 10) (column : Nibble) {j : Nat}
    (hj : j < 11) : imageNibble (frameWord id token rows column) j = (nibblesOf id token ++ [column]).getD j 0 := by
  unfold imageNibble frameWord
  interval_cases j
  all_goals
    simp (disch := omega) only [BitVec.extractLsb'_append_eq_of_le, BitVec.extractLsb'_append_eq_of_add_le]
    simp [rev4_rev4, nibblesOf]

theorem frameWord_fixedBits (id : Byte) (token : Word32) (rows : BitVec 10) (column : Nibble) :
    (frameWord id token rows column).extractLsb' 0 9 = 0x1FF ∧ (frameWord id token rows column).getLsbD 63 = false := by
  unfold frameWord
  simp (disch := omega) only [BitVec.extractLsb'_append_eq_of_add_le, getLsbD_append_high]
  simp

theorem imageRows_frameWord (id : Byte) (token : Word32) (rows : BitVec 10) (column : Nibble) :
    imageRows (frameWord id token rows column) = rows := by
  have hrow (j : Nat) (hj : j < 10) : (frameWord id token rows column).getLsbD (13 + 5 * j) = rows.getLsbD j := by
    unfold frameWord
    interval_cases j
    all_goals
      simp (disch := omega) only [getLsbD_append_low, getLsbD_append_high]
      simp
  refine BitVec.eq_of_getLsbD_eq fun i hi => ?_
  rw [← hrow i hi, imageRows]
  interval_cases i
  all_goals
    simp (disch := omega) only [getLsbD_append_low, getLsbD_append_high]
    simp

end Sys2Proof
end

section
/-! PROOFS. Decoding the encoding: every port's word is read back with every operand (R107, R110). -/

namespace Sys2Proof

/-! ## Nibbles put together again -/

theorem byte_of_nibbles (b : Byte) : b.extractLsb' 4 4 ++ b.extractLsb' 0 4 = b := by
  simp (disch := rfl) only [BitVec.extractLsb'_append_extractLsb'_eq_extractLsb', BitVec.extractLsb'_eq_self]

theorem word_of_nibbles (v : Word32) :
    v.extractLsb' 28 4 ++ v.extractLsb' 24 4 ++ v.extractLsb' 20 4 ++ v.extractLsb' 16 4 ++ v.extractLsb' 12 4
      ++ v.extractLsb' 8 4 ++ v.extractLsb' 4 4 ++ v.extractLsb' 0 4 = v := by
  simp (disch := rfl) only [BitVec.extractLsb'_append_extractLsb'_eq_extractLsb', BitVec.extractLsb'_eq_self]

/-! ## Port by port -/

theorem decodePulse_encodePulse (level : Level) (isLong : Bool) :
    decodePulse (encodePulse level isLong) = .ok { level := level, isLong := isLong } := by
  cases level <;> cases isLong <;> rfl

theorem decodeParams_encodeParams (p : ParamsPort) :
    decodeParams (boolLane p.lock) p.masterKey.toNat p.dataRate.toNat p.modulation.toNat p.pskSubcarrier.toNat
      (boolLane p.answerOnRequest) p.maxBlock.toNat (boolLane p.password) (boolLane p.sequenceTerminator)
      (boolLane p.powerOnResetDelay) = .ok p := by
  simp only [decodeParams, laneBool_boolLane, laneBits_toNat, Except.bind, Except.map]

theorem decodeWire_transferStart (flags prescaler : Byte) (timeout : BitVec 16) :
    decodeWire 0x09 (flags ++ prescaler).toNat timeout.toNat = .ok (.wireTransferStart flags prescaler timeout) := by
  simp only [decodeWire, laneBits_toNat, Except.bind, Except.map, BitVec.extractLsb'_append_eq_left,
    BitVec.extractLsb'_append_eq_right]

theorem decodeToken_append (id : Byte) (data : Word32) : decodeToken (id ++ data).toNat = .ok (.token id data) := by
  simp only [decodeToken, laneBits_toNat, Except.map, BitVec.extractLsb'_append_eq_left, BitVec.extractLsb'_append_eq_right]

theorem decodeFramingFault_row {n : BitVec 4} (h : n.toNat ≤ 9) :
    decodeFramingFault (encodeFramingFault .rowParity n) = .ok (.faultRow n) := by
  have hk : (BitVec.ofNat 2 FramingKind.rowParity.code ++ n).extractLsb' 4 2 = 1 := BitVec.extractLsb'_append_eq_left
  have hi : (BitVec.ofNat 2 FramingKind.rowParity.code ++ n).extractLsb' 0 4 = n := BitVec.extractLsb'_append_eq_right
  simp [decodeFramingFault, encodeFramingFault, laneBits_toNat, Except.bind, hk, hi, h]

theorem decodeFrame_frameWord (id : Byte) (token : Word32) (rows : BitVec 10) (column : Nibble) :
    decodeFrame (frameWord id token rows column).toNat = .ok (.em4100Frame id token rows column) := by
  have hn {j : Nat} (hj : j < 11) := frameWord_nibbles id token rows column hj
  unfold decodeFrame
  simp (disch := omega) only [laneBits_toNat, Except.bind, frameWord_fixedBits, and_self, if_true, hn, imageRows_frameWord]
  simp only [nibblesOf, List.cons_append, List.getD_cons_zero, List.getD_cons_succ, List.nil_append]
  rw [byte_of_nibbles, word_of_nibbles]

theorem decodeEpromW0_epromW0Word (e : BitVec 3) (p3 : Bool) (d : Nibble) (p2 : Bool) (c : Nibble) (p1 : Bool) (b : Nibble)
    (p0 : Bool) (a : Nibble) :
    decodeEpromW0 (epromW0Word e p3 d p2 c p1 b p0 a).toNat = .ok (.epromW0 e p3 d p2 c p1 b p0 a) := by
  simp only [decodeEpromW0, laneBits_toNat, Except.bind, epromW0Word_fields _ _ _ _ _ _ _ _ _ _ rfl, if_true]

theorem decodeEpromW1_epromW1Word (q : Nibble) (p9 : Bool) (n9 : Nibble) (p8 : Bool) (n8 : Nibble) (p7 : Bool) (n7 : Nibble)
    (p6 : Bool) (n6 : Nibble) (p5 : Bool) (n5 : Nibble) (p4 : Bool) (e : Bool) :
    decodeEpromW1 (epromW1Word q p9 n9 p8 n8 p7 n7 p6 n6 p5 n5 p4 e).toNat =
      .ok (.epromW1 q p9 n9 p8 n8 p7 n7 p6 n6 p5 n5 p4 e) := by
  simp only [decodeEpromW1, laneBits_toNat, Except.bind, epromW1Word_fields _ _ _ _ _ _ _ _ _ _ _ _ _ _ rfl, if_true]

theorem decodeCmdShort_cmdShortWord (page lock : Bool) (dataWord : Word32) (block : BitVec 3) :
    decodeCmdShort (cmdShortWord page lock dataWord block).toNat = .ok (.t5557CmdShort page lock dataWord block) := by
  simp only [decodeCmdShort, laneBits_toNat, Except.bind, cmdShortWord_fields _ _ _ _ _ rfl, if_true, rev3_rev3]

theorem decodeCmdLong_cmdLongWord (page : Bool) (password : Word32) (lock : Bool) (dataWord : Word32) (block : BitVec 3) :
    decodeCmdLong (cmdLongWord page password lock dataWord block).toNat =
      .ok (.t5557CmdLong page password lock dataWord block) := by
  simp only [decodeCmdLong, laneBits_toNat, Except.bind, cmdLongWord_fields _ _ _ _ _ _ rfl, if_true, rev3_rev3,
    BitVec.reverse_reverse_eq]

theorem Modulation.ofCode_code (m : Modulation) : Modulation.ofCode m.code = some m := by cases m <;> rfl

theorem PskSubcarrier.ofOrdinal_code (k : PskSubcarrier) : PskSubcarrier.ofOrdinal k.code = some k := by cases k <;> rfl

theorem DataRate.ofOrdinal_code (r : DataRate) : DataRate.ofOrdinal r.code = r := by cases r <;> rfl

theorem decodeConfigWord_configWord (masterKey : BitVec 4) (rate : DataRate) (modulation : Modulation) (psk : PskSubcarrier)
    (aor : Bool) (maxBlock : BitVec 3) (pw st por : Bool) :
    decodeConfigWord (configWord masterKey rate modulation psk aor maxBlock pw st por).toNat =
      .ok (.t5557ConfigWord masterKey rate modulation psk aor maxBlock pw st por) := by
  simp only [decodeConfigWord, laneBits_toNat, Except.bind, configWord_and_reserved, if_true,
    configWord_fields _ _ _ _ _ _ _ _ _ _ rfl, Modulation.ofCode_code, PskSubcarrier.ofOrdinal_code, DataRate.ofOrdinal_code]

theorem mapM_decodeSample_encodeSample {durW : Nat} {l : List Sample} (h : ∀ s ∈ l, s.dur < 2 ^ durW) :
    (l.map (encodeSample durW)).mapM (decodeSample durW) = .ok l := by
  induction l with
  | nil => rfl
  | cons s rest ih =>
    rw [List.map_cons, List.mapM_cons, decodeSample_encodeSample (h s (by simp)), ih fun t ht => h t (by simp [ht])]
    rfl

theorem decodeTrain_encode {c : Config} {samples : List Sample} (h : isTrain c.write samples = true)
    (hfits : ∀ s ∈ samples, s.dur < 2 ^ c.read.durW) :
    decodeTrain c (samples.map (encodeSample c.read.durW)) = .ok (.train samples) := by
  rw [decodeTrain, mapM_decodeSample_encodeSample hfits, Except.bind, if_pos h]

/-! ## Every instruction -/

/-- Settles O1: the rows with operands by the lemma of their port, the others by evaluation. -/
theorem decodeEncodeRoundTrip : Obligations.DecodeEncodeRoundTrip := by
  intro c i h
  cases i with
  | csSample level dur =>
    have hfits : dur < 2 ^ c.read.durW := of_decide_eq_true h
    exact congrArg (Except.map _) (decodeSample_encodeSample (s := ⟨dur, level⟩) hfits)
  | mdPulse level isLong => exact congrArg (Except.map _) (decodePulse_encodePulse level isLong)
  | bdPulse level isLong => exact congrArg (Except.map _) (decodePulse_encodePulse level isLong)
  | tdBit value => exact congrArg (Except.map _) (laneBool_boolLane value)
  | eeGenerate id token => simp only [encode, decode, decodeGenerate, laneBits_toNat, Except.bind, Except.map]
  | teEncodeBlock page block lock pws password dataWord =>
    simp only [encode, decode, decodeEncodeBlock, laneBool_boolLane, laneBits_toNat, Except.bind, Except.map]
  | teEncodeParams params pws password =>
    simp only [encode, encodeParams, List.cons_append, List.nil_append, decode, decodeEncodeParams,
      decodeParams_encodeParams, laneBool_boolLane, laneBits_toNat, Except.bind, Except.map]
  | token id data => exact decodeToken_append id data
  | faultRow nibIdx => exact decodeFramingFault_row (of_decide_eq_true h)
  | em4100Frame id token rows column => exact decodeFrame_frameWord id token rows column
  | epromW0 e p3 d p2 c' p1 b p0 a => exact decodeEpromW0_epromW0Word e p3 d p2 c' p1 b p0 a
  | epromW1 q p9 n9 p8 n8 p7 n7 p6 n6 p5 n5 p4 e => exact decodeEpromW1_epromW1Word q p9 n9 p8 n8 p7 n7 p6 n6 p5 n5 p4 e
  | t5557CmdShort page lock dataWord block => exact decodeCmdShort_cmdShortWord page lock dataWord block
  | t5557CmdLong page password lock dataWord block => exact decodeCmdLong_cmdLongWord page password lock dataWord block
  | t5557ConfigWord k r m q a b p t d => exact decodeConfigWord_configWord k r m q a b p t d
  | train samples =>
    obtain ⟨htrain, hfits⟩ := Bool.and_eq_true_iff.mp h
    exact decodeTrain_encode htrain fun s hs => of_decide_eq_true (List.all_eq_true.mp hfits s hs)
  | wireCoilEnable value => exact congrArg (Except.map _) (laneBits_toNat value)
  | wireTransferStart flags prescaler timeout => exact decodeWire_transferStart flags prescaler timeout
  | wireTransferStatus index => exact congrArg (Except.map _) (laneBits_toNat index)
  | _ => rfl

end Sys2Proof
end

section
/-! PROOFS. What the decoder accepts, a port can carry (R80, R85, R101): the decoders are built from `map`, `bind` and
tests, and a property of what they accept goes through each of these. -/

namespace Sys2Proof

/-! ## Properties of what is accepted -/

/-- Whatever a decoder accepts has the property `P`; a rejected word is no matter. -/
def Accepts {α : Type} (P : α → Prop) (x : Except Reject α) : Prop := ∀ a, x = .ok a → P a

@[simp] theorem accepts_ok_iff {α : Type} {P : α → Prop} {a : α} : Accepts P (.ok a) ↔ P a :=
  ⟨fun h => h a rfl, fun h _ hb => by cases hb; exact h⟩

theorem accepts_ok {α : Type} {P : α → Prop} {a : α} (h : P a) : Accepts P (.ok a) := accepts_ok_iff.mpr h

@[simp] theorem accepts_error {α : Type} {P : α → Prop} {r : Reject} : Accepts P (.error r : Except Reject α) :=
  fun _ h => nomatch h

theorem Accepts.bind {α β : Type} {P : α → Prop} {Q : β → Prop} {x : Except Reject α} {f : α → Except Reject β}
    (hx : Accepts P x) (hf : ∀ a, P a → Accepts Q (f a)) : Accepts Q (x.bind f) := by
  cases x with
  | ok a => exact hf a (hx a rfl)
  | error r => exact accepts_error

theorem Accepts.map {α β : Type} {P : α → Prop} {Q : β → Prop} {x : Except Reject α} {f : α → β} (hx : Accepts P x)
    (hf : ∀ a, P a → Q (f a)) : Accepts Q (x.map f) := by
  cases x with
  | ok a => exact accepts_ok (hf a (hx a rfl))
  | error r => exact accepts_error

/-- Operands that are within their lanes by type need no premise. -/
theorem accepts_bind {α β : Type} {Q : β → Prop} (x : Except Reject α) {f : α → Except Reject β}
    (hf : ∀ a, Accepts Q (f a)) : Accepts Q (x.bind f) :=
  Accepts.bind (P := fun _ => True) (fun _ _ => trivial) fun a _ => hf a

theorem accepts_map {α β : Type} {Q : β → Prop} (x : Except Reject α) {f : α → β} (hf : ∀ a, Q (f a)) :
    Accepts Q (x.map f) :=
  Accepts.map (P := fun _ => True) (fun _ _ => trivial) fun a _ => hf a

theorem accepts_ite {α : Type} {P : α → Prop} {p : Prop} [Decidable p] {x y : Except Reject α} (hx : p → Accepts P x)
    (hy : Accepts P y) : Accepts P (if p then x else y) := by
  by_cases hp : p
  · rw [if_pos hp]
    exact hx hp
  · rw [if_neg hp]
    exact hy

/-- A check of fixed bits: the instruction, or a rejection. -/
theorem accepts_if_ok {α : Type} {P : α → Prop} {p : Prop} [Decidable p] {a : α} {r : Reject} (h : p → P a) :
    Accepts P (if p then .ok a else .error r : Except Reject α) :=
  accepts_ite (fun hp => accepts_ok (h hp)) accepts_error

/-! ## The ports whose operands a type does not bound, and those with more than one table -/

/-- Whatever a decoder accepts a port can carry. -/
abbrev AcceptsWellFormed (c : Config) (x : Except Reject Instr) : Prop := Accepts (fun i => WellFormed c i = true) x

theorem mapM_decodeSample_accepts (durW : Nat) (lanes : List Nat) :
    Accepts (fun l => ∀ s ∈ l, s.dur < 2 ^ durW) (lanes.mapM (decodeSample durW)) := by
  induction lanes with
  | nil => exact accepts_ok (by simp)
  | cons n rest ih =>
    rw [List.mapM_cons]
    refine Accepts.bind (fun s hs => decodeSample_fits hs) fun s hs => ih.bind fun l hl => accepts_ok ?_
    exact List.forall_mem_cons.mpr ⟨hs, hl⟩

theorem decodeTrain_accepts (c : Config) (lanes : List Nat) : AcceptsWellFormed c (decodeTrain c lanes) := by
  refine (mapM_decodeSample_accepts c.read.durW lanes).bind fun samples hfits => accepts_if_ok fun htrain => ?_
  simpa [WellFormed, htrain, durationFits] using hfits

theorem decodeFramingFault_accepts (c : Config) (n : Nat) : AcceptsWellFormed c (decodeFramingFault n) := by
  refine accepts_bind _ fun v => ?_
  split
  · exact accepts_if_ok fun hidx => decide_eq_true hidx
  · exact accepts_if_ok fun _ => rfl
  · exact accepts_if_ok fun _ => rfl
  · exact accepts_error

theorem decodeConfigWord_accepts (c : Config) (n : Nat) : AcceptsWellFormed c (decodeConfigWord n) := by
  refine accepts_bind _ fun v => accepts_ite (fun _ => ?_) accepts_error
  split
  · exact accepts_ok rfl
  · exact accepts_error

theorem decodeEncodeBlock_accepts (c : Config) (g b l p w d : Nat) :
    AcceptsWellFormed c (decodeEncodeBlock g b l p w d) :=
  accepts_bind _ fun _ => accepts_bind _ fun _ => accepts_bind _ fun _ => accepts_bind _ fun _ =>
    accepts_bind _ fun _ => accepts_map _ fun _ => rfl

theorem decodeWire_accepts (c : Config) (code index value : Nat) : AcceptsWellFormed c (decodeWire code index value) := by
  unfold decodeWire
  split
  case h_4 => exact accepts_map _ fun _ => rfl
  case h_10 => exact accepts_bind _ fun _ => accepts_map _ fun _ => rfl
  case h_11 => exact accepts_map _ fun _ => rfl
  case h_12 => exact accepts_error
  all_goals exact accepts_ok rfl

theorem decodeWireFlag_accepts (c : Config) (n : Nat) : AcceptsWellFormed c (decodeWireFlag n) :=
  accepts_bind _ fun _ => accepts_ite (fun _ => accepts_ok rfl) <| accepts_ite (fun _ => accepts_ok rfl) <|
    accepts_ite (fun _ => accepts_ok rfl) <| accepts_if_ok fun _ => rfl

/-! ## The decoder -/

theorem decode_accepts (c : Config) (w : PortWord) : AcceptsWellFormed c (decode c w) := by
  unfold decode
  split
  -- a Sample: its duration fits by `decodeSample_fits`
  case h_1 => exact Accepts.map (fun _ h => decodeSample_fits h) fun _ hfits => decide_eq_true hfits
  case h_13 => exact decodeFramingFault_accepts c _
  case h_20 => exact decodeConfigWord_accepts c _
  case h_24 => exact decodeTrain_accepts c _
  case h_26 => exact decodeWire_accepts c _ _ _
  case h_27 => exact decodeWireFlag_accepts c _
  -- pulses, a bit, a Token
  case h_2 | h_4 | h_6 | h_12 => exact accepts_map _ fun _ => rfl
  -- the commands with operand lanes, and `RESET`
  case h_7 => exact accepts_bind _ fun _ => accepts_map _ fun _ => rfl
  case h_8 => exact decodeEncodeBlock_accepts c _ _ _ _ _ _
  case h_9 => exact accepts_bind _ fun _ => accepts_bind _ fun _ => accepts_map _ fun _ => rfl
  case h_10 => exact accepts_ok rfl
  -- a frame, the EPROM words, the command frames: fixed bits are tested
  case h_14 | h_15 | h_16 | h_17 | h_18 => exact accepts_bind _ fun _ => accepts_if_ok fun _ => rfl
  -- any other number of lanes
  case h_30 => exact accepts_error
  -- the code tables: every entry is a row without operands
  all_goals
    simp only [decodeSyncLost, decodeSync, decodeOpcode, decodeDataRate, decodeModulation, decodePsk, decodeFaultCode,
      decodeWireStatus, decodeWireRc]
    split <;> simp [WellFormed]

/-- Settles O2, port by port. -/
theorem decodedInstructionIsWellFormed : Obligations.DecodedInstructionIsWellFormed :=
  fun c w => decode_accepts c w

end Sys2Proof
end

section
/-! PROOFS. The command frame in air order (R90 to R95) and the train it is sent as (R101, R102, R213). -/

namespace Sys2Proof
open Machine

/-! ## Command frame -/

/-- An element of the middle part of three. -/
theorem getElem?_middle {α : Type} (pre : List α) {mid suf : List α} {p k : Nat} (hp : pre.length = p)
    (hk : k < mid.length) : (pre ++ (mid ++ suf))[p + k]? = mid[k]? := by
  rw [← hp, List.getElem?_append_right (Nat.le_add_right _ _), Nat.add_sub_cancel_left, List.getElem?_append_left hk]

theorem commandBits_short (page lock : Bool) (dataWord : Word32) (block : BitVec 3) :
    commandBits page none lock dataWord block = [true, page, lock] ++ (lsbFirst dataWord ++ blockBits block) := by
  simp [commandBits, opcodeBits]

theorem commandBits_long (page lock : Bool) (password dataWord : Word32) (block : BitVec 3) :
    commandBits page (some password) lock dataWord block =
      [true, page] ++ (msbFirst password ++ ([lock] ++ (lsbFirst dataWord ++ blockBits block))) := by
  simp [commandBits, opcodeBits]

theorem blockBits_eq (block : BitVec 3) : blockBits block = [block.getLsbD 2, block.getLsbD 1, block.getLsbD 0] := rfl

/-- Settles O39: both forms are an opening part, the data word and the block address; the long form's opening part holds
the password. -/
theorem commandFrameLayout : Obligations.CommandFrameLayout := by
  refine ⟨fun page lock dataWord block => ?shortForm, fun page lock password dataWord block => ?longForm⟩
  case shortForm =>
    rw [commandBits_short]
    refine ⟨by simp [blockBits_eq], rfl, fun k hk => ?_, by simp [blockBits_eq]⟩
    calc ([true, page, lock] ++ (lsbFirst dataWord ++ blockBits block))[3 + k]?
        = (lsbFirst dataWord)[k]? := getElem?_middle [true, page, lock] rfl (by simpa using hk)
      _ = some (dataWord.getLsbD k) := getElem?_lsbFirst dataWord hk
  case longForm =>
    rw [commandBits_long]
    refine ⟨by simp [blockBits_eq], rfl, fun k hk => ?_, by simp, fun k hk => ?_, by simp [blockBits_eq, List.drop_append]⟩
    · calc ([true, page] ++ (msbFirst password ++ ([lock] ++ (lsbFirst dataWord ++ blockBits block))))[2 + k]?
          = (msbFirst password)[k]? := getElem?_middle [true, page] rfl (by simpa using hk)
        _ = some (password.getLsbD (31 - k)) := getElem?_msbFirst password hk
    · have hopening : ([true, page] ++ msbFirst password ++ [lock]).length = 35 := by simp
      calc ([true, page] ++ (msbFirst password ++ ([lock] ++ (lsbFirst dataWord ++ blockBits block))))[35 + k]?
          = ([true, page] ++ msbFirst password ++ [lock] ++ (lsbFirst dataWord ++ blockBits block))[35 + k]? := by
            simp only [List.append_assoc]
        _ = (lsbFirst dataWord)[k]? := getElem?_middle _ hopening (by simpa using hk)
        _ = some (dataWord.getLsbD k) := getElem?_lsbFirst dataWord hk

/-! ## Train -/

theorem length_trainOf (w : WriteConfig) (bits : List Bool) : (trainOf w bits).length = 1 + 2 * bits.length := by
  simp [trainOf, Nat.add_comm, Nat.mul_comm]

theorem trainOf_cons_eq_cons (w : WriteConfig) {x y : Bool} {xs ys : List Bool} :
    trainOf w (x :: xs) = trainOf w (y :: ys) ↔ dataPulse w x = dataPulse w y ∧ trainOf w xs = trainOf w ys := by
  simp [trainOf]

/-- The pulse and the gap of the bit at index `k` (R101). -/
theorem trainOf_getElem? (w : WriteConfig) {bits : List Bool} {k : Nat} {b : Bool} (h : bits[k]? = some b) :
    (trainOf w bits)[2 * k + 1]? = some (dataPulse w b) ∧ (trainOf w bits)[2 * k + 2]? = some (writeGap w) := by
  induction bits generalizing k with
  | nil => simp at h
  | cons c rest ih =>
    cases k with
    | zero =>
      obtain rfl : c = b := by simpa using h
      exact ⟨rfl, rfl⟩
    | succ k => exact ih (k := k) (by simpa using h)

/-- Settles O40: the pulse and the gap of each bit are those of the model's `dataPulse` and `writeGap`. -/
theorem trainHasOnePulseAndOneGapPerBit : Obligations.TrainHasOnePulseAndOneGapPerBit := by
  refine fun w bits => ⟨length_trainOf w bits, rfl, fun k b h => ?_⟩
  rw [Nat.add_comm 1, Nat.add_comm 2]
  exact trainOf_getElem? w h

/-- The ranges of R102 keep a 1's pulse longer than a 0's. -/
theorem dataPulse_injective {w : WriteConfig} (h : nominalTiming w) : Function.Injective (dataPulse w) := by
  obtain ⟨hcycle, hone, -, -, hzero⟩ := h
  have hlt : w.tZero < w.tOne := by omega
  intro a b hab
  have hdur : (if a then w.tOne else w.tZero) = if b then w.tOne else w.tZero := congrArg Sample.dur hab
  cases a <;> cases b <;> simp at hdur ⊢ <;> omega

/-- Settles O50: bit by bit, since the data pulses of the two bits differ. -/
theorem nominalTrainDeterminesItsBits : Obligations.NominalTrainDeterminesItsBits := by
  intro w a b hw h
  have hinj := dataPulse_injective hw
  induction a generalizing b with
  | nil =>
    cases b with
    | nil => rfl
    | cons y ys => simp [trainOf] at h
  | cons x xs ih =>
    cases b with
    | nil => simp [trainOf] at h
    | cons y ys =>
      obtain ⟨hxy, hrest⟩ := (trainOf_cons_eq_cons w).mp h
      rw [hinj hxy, ih ys hrest]

end Sys2Proof
end

section
/-! PROOFS. Words written out from the spec's encodings, and the rows that put a word, a code or an event out
(R83 to R91, R96 to R99, R107, R233). -/

namespace Sys2Proof

/-- The password of the long command frame below, whose first bit on the air is its top bit (R92). -/
theorem reverse_topBit : (0x80000000 : Word32).reverse = 1 := by
  refine BitVec.eq_of_getLsbD_eq fun i hi => ?_
  rw [BitVec.getLsbD_reverse]
  decide +revert

/-- Settles O3, each word by evaluation; the long command frame is the number of its fields, which its port reads back. -/
theorem decodeReadsTheSpecsWords : Obligations.DecodeReadsTheSpecsWords := by
  have hlong : 0b110_00000000000000000000000000000101_1_00000000000000000000000000000001_1_1 =
      (cmdLongWord true 0x80000000 true 5 3).toNat := by
    rw [cmdLongWord, reverse_topBit]
    rfl
  refine ⟨rfl, rfl, rfl, rfl, rfl, rfl, rfl, ?longFrame, rfl, rfl, rfl⟩
  case longFrame => exact (congrArg decodeCmdLong hlong).trans (decodeCmdLong_cmdLongWord true 0x80000000 true 5 3)

namespace Machine

/-- Settles O38: the word put out is the concatenation of the fields. -/
theorem epromRowsPutOutTheirWords : Obligations.EpromRowsPutOutTheirWords := by
  refine ⟨?lowWord, ?highWord⟩
  case lowWord =>
    intro s e d c b a p3 p2 p1 p0
    exact ⟨epromW0Word e p3 d p2 c p1 b p0 a, rfl, epromW0Word_fields e p3 d p2 c p1 b p0 a _ rfl⟩
  case highWord =>
    intro s q n9 n8 n7 n6 n5 p9 p8 p7 p6 p5 p4 e
    exact ⟨epromW1Word q p9 n9 p8 n8 p7 n7 p6 n6 p5 n5 p4 e, rfl,
      epromW1Word_fields q p9 n9 p8 n8 p7 n7 p6 n6 p5 n5 p4 e _ rfl⟩

/-- Settles O36: the two words are the halves of the image, and the image is the valid frame. -/
theorem generateProducesTheFrame : Obligations.GenerateProducesTheFrame := by
  intro s id token
  refine ⟨?words, ?bits⟩
  case words => simp [exec, execEeGenerate, emit]
  case bits =>
    calc lsbFirst (epromW0 id token) ++ lsbFirst (epromW1 id token)
        = lsbFirst (epromImage id token) := lsbFirst_halves (epromImage id token)
      _ = validFrame id token := lsbFirst_epromImage id token

/-- Settles O54: each row's meaning is the emission of its one event. -/
theorem outputEventRowsOnlyAppear : Obligations.OutputEventRowsOnlyAppear := by
  intro s id data n
  and_intros <;> rfl

/-- Settles O56: each row's meaning is the emission of its one value, which the code tables of R91 and R97 to R99 give. -/
theorem configurationCodesAndWord : Obligations.ConfigurationCodesAndWord := by
  intro s masterKey rate modulation psk aor maxBlock pw st por
  and_intros <;> rfl

end Machine
end Sys2Proof
end

section
/-! PROOFS. The read path outside its domain (R80, R285), and a whole frame on the air as its bits (R67, R86). -/

namespace Sys2Proof.Machine

/-! ## Guards under a configuration that `RESET` has not sampled -/

theorem whenConfigured_of_not {s : State} (k : State → State) (h : ¬ s.Configured) :
    whenConfigured s k = .refused .configurationChanged := if_neg h

theorem whenManchester_of_not {s : State} (k : MDState → State → State) (h : ¬ s.Configured) (hl : s.line.code = .manchester) :
    whenManchester s k = .refused .configurationChanged := by
  unfold whenManchester
  cases hline : s.line with
  | manchester md => exact whenConfigured_of_not _ h
  | biphase bd => simp [hline, LineState.code] at hl

theorem whenBiphase_of_not {s : State} (k : BDState → State → State) (h : ¬ s.Configured) (hl : s.line.code = .biphase) :
    whenBiphase s k = .refused .configurationChanged := by
  unfold whenBiphase
  cases hline : s.line with
  | biphase bd => exact whenConfigured_of_not _ h
  | manchester md => simp [hline, LineState.code] at hl

/-- Settles O18: the width is tested first, then the decoder that the line code selects is there, then the configuration
is compared. -/
theorem readPathRefusesWhatIsOutsideItsDomain : Obligations.ReadPathRefusesWhatIsOutsideItsDomain := by
  refine ⟨?tooWide, ?unsampled⟩
  case tooWide =>
    intro s level dur hdur
    exact if_neg (Nat.not_lt.mpr hdur)
  case unsampled =>
    intro s i hs hcode hi
    obtain ⟨level, dur, rfl, hdur⟩ | ⟨b, rfl⟩ | rfl | ⟨id, token, rows, column, rfl⟩ | ⟨hm, rfl | ⟨level, isLong, rfl⟩⟩ |
      ⟨hb, rfl | ⟨level, isLong, rfl⟩⟩ := hi
    · exact (if_pos hdur).trans (whenConfigured_of_not _ hs)
    · exact whenConfigured_of_not _ hs
    · exact whenConfigured_of_not _ hs
    · exact whenConfigured_of_not _ hs
    · exact whenManchester_of_not _ hs (hcode.trans hm)
    · exact whenManchester_of_not _ hs (hcode.trans hm)
    · exact whenBiphase_of_not _ hs (hcode.trans hb)
    · exact whenBiphase_of_not _ hs (hcode.trans hb)

/-! ## A frame on the air -/

/-- `TD.BIT` keeps the configuration, so the bits complete one after the other. -/
theorem runInstrs_tdBits (bits : List Bool) {s : State} (h : s.Configured) :
    runInstrs (bits.map .tdBit) s = .next (tdBits bits s) := by
  induction bits generalizing s with
  | nil => rfl
  | cons b rest ih =>
    obtain ⟨hframe, -⟩ := tdBit_frame b s
    have hnext : exec (.tdBit b) s = .next (tdBit b s) := whenConfigured_of _ h
    rw [List.map_cons, runInstrs, hnext]
    exact ih (by rw [State.Configured, hframe.cfg, hframe.latched, h])

/-- Settles O35: row and bits both end in the state that `tdBits` gives. -/
theorem frameRowFeedsItsBits : Obligations.FrameRowFeedsItsBits := by
  intro s id token rows column h
  exact ⟨tdBits (airFrame id token rows column) s, whenConfigured_of _ h, runInstrs_tdBits _ h⟩

end Sys2Proof.Machine
end

section
/-! PROOFS. The windows of R121, and one Sample by what it leads to: counted, lock declared, forwarded, lock lost
(R123 to R130). -/

namespace Sys2Proof.Machine

/-! ## Windows -/

/-- R121 and R122 with the windows written as multiples of the divider. -/
theorem classify_windows (d : Divider) (dur : Nat) : classify d.shortRange d.longRange dur =
    if 3 * d.value ≤ dur ∧ dur ≤ 5 * d.value then .short
    else if 6 * d.value ≤ dur ∧ dur ≤ 10 * d.value then .long else .none := by
  simp only [classify, Range.holds, Bool.and_eq_true, decide_eq_true_eq]
  cases d <;> rfl

/-- Settles O8: the table by evaluation, the classification by `classify_windows`. -/
theorem windowsOfEachDivider : Obligations.WindowsOfEachDivider :=
  ⟨⟨rfl, rfl, rfl, rfl⟩, ⟨rfl, rfl, rfl, rfl⟩, ⟨rfl, rfl, rfl, rfl⟩, classify_windows, rfl, rfl, rfl⟩

/-! ## What the decoders do does not depend on CS -/

/-- The state with another Carrier Synchronizer. -/
def State.withCS (s : State) (c : CSState) : State := { s with cs := c }

@[simp] theorem State.withCS_line (s : State) (c : CSState) : (s.withCS c).line = s.line := rfl
@[simp] theorem State.withCS_td (s : State) (c : CSState) : (s.withCS c).td = s.td := rfl

theorem tdPreambleBit_withCS (b : Bool) (c : CSState) (s : State) :
    tdPreambleBit b (s.withCS c) = (tdPreambleBit b s).withCS c := by
  simp only [tdPreambleBit, apply_ite (State.withCS · c)]
  rfl

theorem tdFinish_withCS (c : CSState) (s : State) : tdFinish (s.withCS c) = (tdFinish s).withCS c := by
  simp only [tdFinish, apply_ite (State.withCS · c)]
  rfl

theorem tdFifthBit_withCS (b : Bool) (c : CSState) (s : State) :
    tdFifthBit b (s.withCS c) = (tdFifthBit b s).withCS c := by
  simp only [tdFifthBit, apply_ite (State.withCS · c), ← tdFinish_withCS]
  rfl

theorem tdBit_withCS (b : Bool) (c : CSState) (s : State) : tdBit b (s.withCS c) = (tdBit b s).withCS c := by
  cases hm : s.td.mode with
  | preamble =>
    rw [tdBit_preamble hm, tdBit_preamble (s := s.withCS c) hm]
    exact tdPreambleBit_withCS b c s
  | data =>
    by_cases hf : s.td.fill < 4
    · rw [tdBit_data hm hf, tdBit_data (s := s.withCS c) hm hf]
      rfl
    · rw [tdBit_fifth hm hf, tdBit_fifth (s := s.withCS c) hm hf]
      exact tdFifthBit_withCS b c s

theorem deliverBit_withCS (b : Bool) (c : CSState) (s : State) :
    deliverBit b (s.withCS c) = (deliverBit b s).withCS c :=
  tdBit_withCS b c (emit (.bit b) s)

/-! ## A line decoder by itself -/

/-- What a line decoder's state becomes on a pulse, and the bit it emits (R152, R153, R157). -/
def LineState.pulse (p : PulseEvent) : LineState → LineState × Option Bool
  | .manchester md =>
    if md.timerRunning then (.manchester { lastOutput := p.level, timerRunning := false }, some p.level.bit)
    else if p.level ≠ md.lastOutput then
      if p.isLong then (.manchester { md with lastOutput := p.level }, some p.level.bit)
      else (.manchester { md with timerRunning := true }, none)
    else (.manchester md, none)
  | .biphase bd =>
    if p.isLong then (.biphase { lastWasShort := false }, some true)
    else if bd.lastWasShort then (.biphase { lastWasShort := false }, some false)
    else (.biphase { lastWasShort := true }, none)

/-- The bit of a pulse, where there is one, delivered to TD. -/
def deliverBitOf : Option Bool → State → State
  | none, s => s
  | some b, s => deliverBit b s

/-- The decoder takes its next state, then delivers its bit. -/
theorem linePulse_eq (p : PulseEvent) (s : State) :
    linePulse p s = deliverBitOf (s.line.pulse p).2 { s with line := (s.line.pulse p).1 } := by
  cases hl : s.line with
  | manchester md =>
    rw [linePulse_of_manchester p hl, mdPulse, LineState.pulse]
    split_ifs
    · rfl
    · rfl
    · rfl
    · rw [← hl]
      rfl
  | biphase bd =>
    rw [linePulse_of_biphase p hl, bdPulse, LineState.pulse]
    split_ifs <;> rfl

theorem linePulse_withCS (p : PulseEvent) (c : CSState) (s : State) :
    linePulse p (s.withCS c) = (linePulse p s).withCS c := by
  rw [linePulse_eq, linePulse_eq, State.withCS_line]
  cases (s.line.pulse p).2 with
  | none => rfl
  | some b => exact deliverBit_withCS b c { s with line := (s.line.pulse p).1 }

/-! ## The checks after the counting -/

theorem CSState.acquires_of_synced {c : CSState} (h : c.hasSync = true) : c.acquires = false := by
  simp [CSState.acquires, h]

theorem csBoundary_eq (s : State) : csBoundary s = { s with cs := windowed s.cs } := by
  by_cases h : 50 ≤ s.cs.pulseCount <;> simp [csBoundary, windowed, CSState.windowEnds, CSState.clearCounters, h]

/-- Neither lost lock nor acquisition: the window boundary alone (R126, R130). -/
theorem csChecks_of_quiet {s : State} (he : s.cs.errorCount < 10) (ha : s.cs.acquires = false) :
    csChecks s = { s with cs := windowed s.cs } := by
  rw [csChecks_of_kept (Nat.not_le.mpr he), csBoundary_eq]
  simp [csAcquire, ha]

/-- Acquisition, then the window boundary (R126, R129, R130). -/
theorem csChecks_of_acquires {s : State} (ha : s.cs.acquires = true) : csChecks s =
    { s with cs := windowed { s.cs with hasSync := true }, trace := s.trace ++ [.acquired s.cs.divider] } := by
  obtain ⟨-, -, -, he⟩ := CSState.acquires_iff.mp ha
  rw [csChecks_of_kept (by omega), csBoundary_eq]
  simp [csAcquire, ha, deliverSyncAcquired, emit]

/-- The condition of R129 fails by its counts. -/
theorem CSState.not_acquires_of {c : CSState} (h : ¬(4 < c.hiCount ∧ 4 < c.loCount ∧ c.errorCount < 4)) :
    c.acquires = false := by
  rw [Bool.eq_false_iff]
  intro ha
  obtain ⟨-, hcounts⟩ := CSState.acquires_iff.mp ha
  exact h hcounts

/-! ## One Sample -/

/-- What the current windows say of a Sample (R122). -/
abbrev CSState.classOf (c : CSState) (smp : Sample) : PulseClass := classify c.shortRange c.longRange smp.dur

/-- Nothing is forwarded unsynchronized, nor on a miss: the Sample is counted (R123 to R125). -/
theorem csCounted_of_not_forwarded {s : State} {smp : Sample} (h : s.cs.hasSync = false ∨ s.cs.classOf smp = .none) :
    csCounted smp s = { s with cs := s.cs.count smp.level (s.cs.classOf smp) } := by
  obtain hu | hk := h
  · exact csForward_of_unsync _ _ (by simpa using hu)
  · change csForward smp.level (s.cs.classOf smp) { s with cs := s.cs.count smp.level (s.cs.classOf smp) } = _
    rw [hk, csForward_none]

/-- A Sample that is not forwarded, with neither lost lock nor acquisition. -/
theorem csSample_of_quiet {s : State} {smp : Sample} (hf : s.cs.hasSync = false ∨ s.cs.classOf smp = .none)
    (he : (s.cs.count smp.level (s.cs.classOf smp)).errorCount < 10)
    (ha : (s.cs.count smp.level (s.cs.classOf smp)).acquires = false) :
    csSample smp s = { s with cs := windowed (s.cs.count smp.level (s.cs.classOf smp)) } := by
  rw [csSample_eq_csChecks, csCounted_of_not_forwarded hf]
  exact csChecks_of_quiet he ha

/-- The same while unsynchronized, by what the counting leaves. -/
theorem csSample_of_count {s : State} {smp : Sample} {c : CSState} (hu : s.cs.hasSync = false)
    (hcount : s.cs.count smp.level (s.cs.classOf smp) = c) (he : c.errorCount < 10)
    (ha : ¬(4 < c.hiCount ∧ 4 < c.loCount ∧ c.errorCount < 4)) : csSample smp s = { s with cs := windowed c } := by
  subst hcount
  exact csSample_of_quiet (.inl hu) he (CSState.not_acquires_of ha)

/-- A miss before the tenth error is counted (R123, R125). -/
theorem csSample_of_miss {s : State} {smp : Sample} (hk : s.cs.classOf smp = .none) (he : s.cs.errorCount < 9)
    (ha : (s.cs.count smp.level .none).acquires = false) : csSample smp s =
    { s with cs := windowed { s.cs with pulseCount := s.cs.pulseCount + 1, errorCount := s.cs.errorCount + 1 } } := by
  rw [csSample_of_quiet (.inr hk), hk, CSState.count_none]
  · rw [hk, CSState.count_none]
    exact Nat.succ_lt_succ he
  · rw [hk, ha]

/-- The tenth error loses lock (R127, R128). -/
theorem csSample_of_tenth_error {s : State} {smp : Sample} (hk : s.cs.classOf smp = .none) (he : s.cs.errorCount = 9) :
    csSample smp s = { s with
      cs := CSState.reset s.cs.divider.next
      line := lineAfterLoss s.latched s.line
      trace := s.trace ++ [.lost] } := by
  rw [csSample_eq_csChecks, csCounted_of_not_forwarded (.inr hk), hk, CSState.count_none, csChecks_of_lost (by simp [he])]
  rfl

/-- A match that completes the condition of R129 declares lock. -/
theorem csSample_of_acquires {s : State} {smp : Sample}
    (ha : (s.cs.count smp.level (s.cs.classOf smp)).acquires = true) : csSample smp s = { s with
      cs := windowed { s.cs.count smp.level (s.cs.classOf smp) with hasSync := true }
      trace := s.trace ++ [.acquired (s.cs.count smp.level (s.cs.classOf smp)).divider] } := by
  obtain ⟨hu, -⟩ := CSState.acquires_iff.mp ha
  rw [csSample_eq_csChecks, csCounted_of_not_forwarded (.inl (by simpa using hu))]
  exact csChecks_of_acquires ha

/-- The state in which the line decoder takes a forwarded pulse: the boundary check may stand before it, since the
decoders do not look at CS. -/
def pulseForwarded (p : PulseEvent) (s : State) : State :=
  { s with cs := windowed { s.cs with pulseCount := s.cs.pulseCount + 1 }, trace := s.trace ++ [.pulse p] }

/-- A match while synchronized is forwarded (R125). -/
theorem csSample_of_forwarded {s : State} {smp : Sample} (hs : s.cs.hasSync = true) (he : s.cs.errorCount < 10)
    (hk : s.cs.classOf smp ≠ .none) : csSample smp s =
    linePulse ⟨smp.level, decide (s.cs.classOf smp = .long)⟩
      (pulseForwarded ⟨smp.level, decide (s.cs.classOf smp = .long)⟩ s) := by
  generalize hp : PulseEvent.mk smp.level (decide (s.cs.classOf smp = .long)) = p
  have hcounted : csCounted smp s =
      linePulse p (emit (.pulse p) (s.withCS { s.cs with pulseCount := s.cs.pulseCount + 1 })) := by
    rw [← hp, ← CSState.count_match_synced smp.level hk hs]
    exact csForward_match (s := s.withCS _) _ (by simpa [State.withCS] using hs) hk
  obtain ⟨hframe, -⟩ := linePulse_frame p (emit (.pulse p) (s.withCS { s.cs with pulseCount := s.cs.pulseCount + 1 }))
  rw [csSample_eq_csChecks, hcounted, csChecks_of_quiet, hframe.cs]
  · exact (linePulse_withCS p _ _).symm
  · rwa [hframe.cs]
  · rw [hframe.cs]
    exact CSState.acquires_of_synced hs

/-! ## `CS.SAMPLE` -/

/-- A Sample that fits its port completes under the sampled configuration. -/
theorem exec_csSample {s : State} {level : Level} {dur : Nat} (hc : s.Configured) (hd : dur < 2 ^ s.latched.durW) :
    exec (.csSample level dur) s = .next (csSample { dur := dur, level := level } s) :=
  execCsSample_eq_next.mpr ⟨hd, hc, rfl⟩

/-- Settles O9: a miss, a High match and a Low match each raise their counter, and no check but the boundary applies. -/
theorem unsynchronizedSampleIsCounted : Obligations.UnsynchronizedSampleIsCounted := by
  intro s level dur hc hd hu
  rw [exec_csSample hc hd]
  refine ⟨fun hk he ha => ?miss, fun hk hlevel he ha => ?high, fun hk hlevel he ha => ?low⟩
  case miss =>
    rw [csSample_of_miss (smp := ⟨dur, level⟩) hk he (CSState.not_acquires_of ha)]
  case high =>
    subst hlevel
    rw [csSample_of_count (smp := ⟨dur, .high⟩) hu (CSState.count_match_high hk hu) he ha]
  case low =>
    subst hlevel
    rw [csSample_of_count (smp := ⟨dur, .low⟩) hu (CSState.count_match_low hk hu) he ha]

/-- The counters after a match while unsynchronized, both levels at once (R124). -/
theorem CSState.count_match_unsynced {c : CSState} (level : Level) {k : PulseClass} (hk : k ≠ .none)
    (hu : c.hasSync = false) : c.count level k = { c with
      pulseCount := c.pulseCount + 1
      hiCount := c.hiCount + (if level = .high then 1 else 0)
      loCount := c.loCount + (if level = .low then 1 else 0) } := by
  cases level with
  | high => exact CSState.count_match_high hk hu
  | low => exact CSState.count_match_low hk hu

/-- Settles O10: the counted Sample meets the condition of R129. -/
theorem acquiringSampleDeclaresLock : Obligations.AcquiringSampleDeclaresLock := by
  intro s level dur hc hd hu hk he hhi hlo
  have hcount := CSState.count_match_unsynced level hk hu
  rw [exec_csSample hc hd, csSample_of_acquires] <;> simp only [CSState.classOf, hcount]
  exact CSState.acquires_iff.mpr ⟨hu, hhi, hlo, he⟩

/-- Settles O11: the pulse is forwarded, and `linePulse` is the operation of the decoder that is configured. -/
theorem synchronizedSampleIsForwarded : Obligations.SynchronizedSampleIsForwarded := by
  intro s level dur k u hc hd hs he hclass hk hu
  subst hclass
  have hnext : exec (.csSample level dur) s =
      .next (linePulse ⟨level, decide (classify s.cs.shortRange s.cs.longRange dur = .long)⟩ u) := by
    rw [exec_csSample hc hd, csSample_of_forwarded (smp := ⟨dur, level⟩) hs he hk, hu]
    rfl
  have huc : u.Configured := by rw [hu]; exact hc
  have hul : u.line = s.line := by rw [hu]
  refine ⟨hnext, fun md hl => ?manchester, fun bd hl => ?biphase⟩
  case manchester =>
    rw [hnext, linePulse_of_manchester _ (hul.trans hl)]
    exact (whenManchester_of (fun md => mdPulse md _) huc (hul.trans hl)).symm
  case biphase =>
    rw [hnext, linePulse_of_biphase _ (hul.trans hl)]
    exact (whenBiphase_of (fun bd => bdPulse bd _) huc (hul.trans hl)).symm

/-- Settles O12: a miss while synchronized acquires nothing, so the count and the boundary are all it does. -/
theorem synchronizedMissIsCounted : Obligations.SynchronizedMissIsCounted := by
  intro s level dur hc hd hs he hk
  rw [exec_csSample hc hd, csSample_of_miss (smp := ⟨dur, level⟩) hk he (CSState.acquires_of_synced (by simpa using hs))]

/-- Settles O13: lost lock is tested first, so the tenth error leaves CS as after a reset with the next divider. -/
theorem tenthErrorLosesLock : Obligations.TenthErrorLosesLock := by
  intro s level dur hc hd he hk
  rw [exec_csSample hc hd, csSample_of_tenth_error (smp := ⟨dur, level⟩) hk he]
  rfl

end Sys2Proof.Machine
end

section
/-! PROOFS. Everything one Sample can do, and the events it causes (R132, R133, R164, R184, R258). -/

namespace Sys2Proof.Machine

/-- A Sample is counted and nothing else happens; or lock is lost, or declared; or a pulse is forwarded. -/
theorem csSample_cases (smp : Sample) {s : State} (h : s.cs.errorCount ≤ 9) :
    (∃ c, csSample smp s = { s with cs := c }) ∨
    (∃ c ln, csSample smp s = { s with cs := c, line := ln, trace := s.trace ++ [.lost] }) ∨
    (∃ c d, csSample smp s = { s with cs := c, trace := s.trace ++ [.acquired d] }) ∨
    (∃ p, csSample smp s = linePulse p (pulseForwarded p s)) := by
  cases ha : (s.cs.count smp.level (s.cs.classOf smp)).acquires with
  | true => exact .inr (.inr (.inl ⟨_, _, csSample_of_acquires ha⟩))
  | false =>
    by_cases hk : s.cs.classOf smp = .none
    · by_cases he : s.cs.errorCount = 9
      · exact .inr (.inl ⟨_, _, csSample_of_tenth_error hk he⟩)
      · exact .inl ⟨_, csSample_of_miss hk (by omega) (hk ▸ ha)⟩
    · cases hs : s.cs.hasSync with
      | true => exact .inr (.inr (.inr ⟨_, csSample_of_forwarded hs (by omega) hk⟩))
      | false =>
        refine .inl ⟨_, csSample_of_quiet (.inl hs) ?_ ha⟩
        rw [CSState.count_match_unsynced _ hk hs]
        exact Nat.lt_succ_of_le h

/-! ## The events of one pulse -/

theorem deliverBitOf_trace (o : Option Bool) (s : State) :
    ∃ m, (deliverBitOf o s).trace = s.trace ++ (o.toList.map Event.bit ++ m) ∧ m.length ≤ 1 ∧
      ∀ e ∈ m, e.fromTD = true := by
  cases o with
  | none => exact ⟨[], by simp [deliverBitOf], by simp, by simp⟩
  | some b => exact deliverBit_trace b s

/-- The decoder's bit, if any, and at most one output of TD (R164, R184). -/
theorem linePulse_trace (p : PulseEvent) (s : State) :
    ∃ m, (linePulse p s).trace = s.trace ++ ((s.line.pulse p).2.toList.map Event.bit ++ m) ∧ m.length ≤ 1 ∧
      ∀ e ∈ m, e.fromTD = true := by
  rw [linePulse_eq]
  exact deliverBitOf_trace _ { s with line := (s.line.pulse p).1 }

/-- At most one event of each stage, and no SyncLost together with an output of TD. -/
structure OneEventPerStage (l : List Event) : Prop where
  fromCS : l.countP Event.fromCS ≤ 1
  fromLine : l.countP Event.fromLine ≤ 1
  fromTD : l.countP Event.fromTD ≤ 1
  lost : Event.lost ∈ l → l.countP Event.fromTD = 0

theorem oneEventPerStage_nil : OneEventPerStage [] := ⟨by simp, by simp, by simp, by simp⟩

theorem oneEventPerStage_singleton {e : Event} (h : e.fromCS = true) : OneEventPerStage [e] := by
  cases e with
  | pulse | acquired | lost => constructor <;> simp [Event.fromCS, Event.fromLine, Event.fromTD]
  | _ => cases h

/-- Each event is an output of one stage only. -/
theorem Event.not_fromCS_of_fromTD {e : Event} (h : e.fromTD = true) : e.fromCS = false ∧ e.fromLine = false := by
  cases e with
  | token | framingFault => exact ⟨rfl, rfl⟩
  | _ => cases h

theorem Event.ne_lost_of_fromTD {e : Event} (h : e.fromTD = true) : e ≠ .lost := by
  rintro rfl
  cases h

theorem Event.ne_acquired_of_fromTD {e : Event} (d : Divider) (h : e.fromTD = true) : e ≠ .acquired d := by
  rintro rfl
  cases h

theorem oneEventPerStage_pulse (p : PulseEvent) (o : Option Bool) {m : List Event} (hlen : m.length ≤ 1)
    (htd : ∀ e ∈ m, e.fromTD = true) : OneEventPerStage (.pulse p :: (o.toList.map Event.bit ++ m)) := by
  have hcs : m.countP Event.fromCS = 0 := List.countP_eq_zero.mpr fun e he => by
    simp [Event.not_fromCS_of_fromTD (htd e he)]
  have hline : m.countP Event.fromLine = 0 := List.countP_eq_zero.mpr fun e he => by
    simp [Event.not_fromCS_of_fromTD (htd e he)]
  have hle : m.countP Event.fromTD ≤ 1 := List.countP_le_length.trans hlen
  have hlost : Event.lost ∉ m := fun h => Event.ne_lost_of_fromTD (htd _ h) rfl
  cases o <;> constructor <;> simp [List.countP_cons, Event.fromCS, Event.fromLine, Event.fromTD, hcs, hline, hle, hlost]

/-- What one Sample appends to the record. -/
theorem csSample_trace (smp : Sample) {s : State} (h : s.cs.errorCount ≤ 9) :
    ∃ l, (csSample smp s).trace = s.trace ++ l ∧ OneEventPerStage l := by
  obtain ⟨c, heq⟩ | ⟨c, ln, heq⟩ | ⟨c, d, heq⟩ | ⟨p, heq⟩ := csSample_cases smp h <;> rw [heq]
  · exact ⟨[], (List.append_nil _).symm, oneEventPerStage_nil⟩
  · exact ⟨_, rfl, oneEventPerStage_singleton rfl⟩
  · exact ⟨_, rfl, oneEventPerStage_singleton rfl⟩
  · obtain ⟨m, hm, hlen, htd⟩ := linePulse_trace p (pulseForwarded p s)
    exact ⟨_, by rw [hm]; exact List.append_assoc _ [_] _, oneEventPerStage_pulse p _ hlen htd⟩

/-- Settles O14: a Sample that fits completes, and in a state of the invariant it does one of the four things of
`csSample_cases`. -/
theorem eachSampleCausesAtMostOneEventOfEachStage : Obligations.EachSampleCausesAtMostOneEventOfEachStage := by
  intro s level dur hc ⟨⟨_, _, _, herr, _⟩, _⟩ hd
  obtain ⟨l, htrace, hone⟩ := csSample_trace { dur := dur, level := level } herr
  refine ⟨_, exec_csSample hc hd, ?_, ?_⟩ <;> rw [newEvents_of_trace htrace]
  · exact htrace
  · exact ⟨hone.fromCS, hone.fromLine, hone.fromTD, hone.lost, csSample_frame _ s⟩

end Sys2Proof.Machine
end

section
/-! PROOFS. Runs of Samples: misses up to the tenth and beyond (R127, R128, R133, R138), and the first nine Samples of a
window (R136, R287). -/

namespace Sys2Proof.Machine

/-! ## Samples one after the other -/

/-- `CS.SAMPLE` for each Sample of a list. -/
def csSamples (l : List Sample) (s : State) : State := l.foldl (fun s smp => csSample smp s) s

@[simp] theorem csSamples_nil (s : State) : csSamples [] s = s := rfl

@[simp] theorem csSamples_cons (smp : Sample) (l : List Sample) (s : State) :
    csSamples (smp :: l) s = csSamples l (csSample smp s) := rfl

theorem csSamples_concat (l : List Sample) (smp : Sample) (s : State) :
    csSamples (l ++ [smp]) s = csSample smp (csSamples l s) := List.foldl_concat ..

/-- Samples that fit their port complete one after the other. -/
theorem runInstrs_sampleInstrs {l : List Sample} {s : State} (hc : s.Configured)
    (hl : ∀ x ∈ l, x.dur < 2 ^ s.latched.durW) : runInstrs (sampleInstrs l) s = .next (csSamples l s) := by
  induction l generalizing s with
  | nil => rfl
  | cons x rest ih =>
    obtain ⟨hx, hrest⟩ := List.forall_mem_cons.mp hl
    obtain ⟨hcfg, hlat, -⟩ := csSample_frame x s
    have hnext : exec (.csSample x.level x.dur) s = .next (csSample x s) := exec_csSample hc hx
    rw [sampleInstrs, List.map_cons, runInstrs, hnext]
    exact ih (by rw [State.Configured, hcfg, hlat, hc]) (by rwa [hlat])

theorem csSamples_appends (l : List Sample) (s : State) : Appends (csSamples l) s := by
  induction l generalizing s with
  | nil => exact .of_silent fun _ => rfl
  | cons x rest ih => exact (ih _).comp (csSample_appends x s)

theorem csSamples_trace (l : List Sample) (s : State) : ∃ m, (csSamples l s).trace = s.trace ++ m := by
  obtain ⟨m, hm⟩ := csSamples_appends l s
  exact ⟨m, congrArg State.trace (hm s.trace)⟩

/-! ## The window boundary -/

theorem windowed_of_full {c : CSState} (h : 50 ≤ c.pulseCount) : windowed c = c.clearCounters := if_pos h

theorem windowed_of_lt {c : CSState} (h : c.pulseCount < 50) : windowed c = c := if_neg (by omega)

@[simp] theorem windowed_divider (c : CSState) : (windowed c).divider = c.divider := by
  unfold windowed; split <;> rfl

@[simp] theorem windowed_shortRange (c : CSState) : (windowed c).shortRange = c.shortRange := by
  unfold windowed; split <;> rfl

@[simp] theorem windowed_longRange (c : CSState) : (windowed c).longRange = c.longRange := by
  unfold windowed; split <;> rfl

/-! ## Misses -/

/-- In a state of the invariant a miss never completes the condition of R129. -/
theorem CSState.Inv.miss_not_acquires {c : CSState} (h : c.Inv) (level : Level) :
    (c.count level .none).acquires = false := by
  obtain ⟨-, -, -, -, -, hunsync⟩ := h
  rw [CSState.count_none, Bool.eq_false_iff]
  intro ha
  obtain ⟨hu, hhi, hlo, he⟩ := CSState.acquires_iff.mp ha
  obtain ⟨-, hnot⟩ := hunsync hu
  exact hnot ⟨hhi, hlo, Nat.lt_of_succ_lt he⟩

/-- How many misses in a row lose lock: the errors missing to ten, where the window has room for them; else what is left
of the window, and ten more (R138). -/
def CSState.missesToLoss (c : CSState) : Nat :=
  if 10 - c.errorCount ≤ 50 - c.pulseCount then 10 - c.errorCount else 50 - c.pulseCount + 10

theorem CSState.Inv.missesToLoss_le {c : CSState} (h : c.Inv) : c.missesToLoss ≤ 19 := by
  obtain ⟨-, -, hpulse, herr, -⟩ := h
  unfold CSState.missesToLoss
  split <;> omega

theorem CSState.Inv.missesToLoss_pos {c : CSState} (h : c.Inv) : 0 < c.missesToLoss := by
  obtain ⟨-, -, hpulse, herr, -⟩ := h
  unfold CSState.missesToLoss
  split <;> omega

/-- A miss that does not lose lock brings the loss one Sample nearer, across the window boundary too. -/
theorem CSState.missesToLoss_of_miss {c : CSState} (hpulse : c.pulseCount ≤ 49) (herr : c.errorCount < 9) :
    (windowed { c with pulseCount := c.pulseCount + 1, errorCount := c.errorCount + 1 }).missesToLoss + 1 =
      c.missesToLoss := by
  by_cases hlast : c.pulseCount = 49
  · have hlate : c.missesToLoss = 11 := by
      rw [CSState.missesToLoss, if_neg (by omega), hlast]
    rw [windowed_of_full (by simp [hlast]), hlate]
    rfl
  · rw [windowed_of_lt (by simp only; omega)]
    simp only [CSState.missesToLoss]
    split <;> split <;> omega

/-- As many misses as `missesToLoss` says lose lock. -/
theorem csSamples_lose_lock {l : List Sample} {s : State} (hinv : s.Inv) (hl : ∀ x ∈ l, s.cs.classOf x = .none)
    (hn : s.cs.missesToLoss ≤ l.length) : ∃ m, (csSamples l s).trace = s.trace ++ m ∧ Event.lost ∈ m := by
  induction l generalizing s with
  | nil =>
    obtain ⟨hcs, -⟩ := hinv
    exact absurd hn (Nat.not_le.mpr hcs.missesToLoss_pos)
  | cons x rest ih =>
    obtain ⟨hx, hrest⟩ := List.forall_mem_cons.mp hl
    have ⟨hcs, _⟩ := hinv
    have ⟨_, _, hpulse, herr, _⟩ := hcs
    rw [csSamples_cons]
    by_cases h9 : s.cs.errorCount = 9
    · obtain ⟨m, hm⟩ := csSamples_trace rest (csSample x s)
      refine ⟨.lost :: m, ?_, List.mem_cons_self⟩
      rw [hm, csSample_of_tenth_error hx h9]
      exact List.append_assoc _ [_] m
    · have herr' : s.cs.errorCount < 9 := by omega
      have hinv' := csSample_inv x hinv
      have hcount := CSState.missesToLoss_of_miss hpulse herr'
      rw [csSample_of_miss hx herr' (hcs.miss_not_acquires _)] at hinv' ⊢
      exact ih hinv' (by simpa [CSState.classOf] using hrest) (by simp only [List.length_cons] at hn ⊢; omega)

/-- Settles O16: nineteen is the most that `missesToLoss` can be. -/
theorem nineteenBadSamplesLoseLock : Obligations.NineteenBadSamplesLoseLock := by
  intro s l hc hinv hlen hl
  have ⟨hcs, _⟩ := hinv
  obtain ⟨m, htrace, hlost⟩ := csSamples_lose_lock hinv (fun x hx => (hl x hx).1) (hlen ▸ hcs.missesToLoss_le)
  exact ⟨_, runInstrs_sampleInstrs hc fun x hx => (hl x hx).2, by rwa [newEvents_of_trace htrace]⟩

/-! ## The first nine Samples of a window -/

@[simp] theorem CSState.count_pulseCount (c : CSState) (level : Level) (k : PulseClass) :
    (c.count level k).pulseCount = c.pulseCount + 1 := by
  dsimp only [CSState.count]
  repeat' split
  all_goals rfl

/-- With at most nine Samples counted neither the tenth error nor five of each level can be among them. -/
theorem CSState.Counted.quiet {c : CSState} (h : c.Counted) (hp : c.pulseCount ≤ 9) :
    c.errorCount < 10 ∧ c.acquires = false := by
  have hle := h.counters_le
  exact ⟨by omega, CSState.not_acquires_of (by omega)⟩

theorem csSamples_of_first_nine {l : List Sample} {s : State} (hinv : s.Inv) (hu : s.cs.hasSync = false)
    (hp : s.cs.pulseCount + l.length ≤ 9) : ∃ c, csSamples l s = { s with cs := c } ∧ c.hasSync = false := by
  induction l generalizing s with
  | nil => exact ⟨s.cs, rfl, hu⟩
  | cons x rest ih =>
    have ⟨hcs, _⟩ := hinv
    rw [List.length_cons] at hp
    obtain ⟨he, ha⟩ := (CSState.count_counted hcs x.level (s.cs.classOf x)).quiet (by rw [CSState.count_pulseCount]; omega)
    have hinv' := csSample_inv x hinv
    rw [csSamples_cons]
    rw [csSample_of_quiet (.inl hu) he ha, windowed_of_lt (by rw [CSState.count_pulseCount]; omega)] at hinv' ⊢
    exact ih hinv' (by simpa using hu) (by simp only [CSState.count_pulseCount]; omega)

/-- Settles O17: an event takes ten Samples of a window, the tenth error as well as five matches of each level. -/
theorem noEventInTheFirstNineSamples : Obligations.NoEventInTheFirstNineSamples := by
  intro s l hc hinv hu hp hlen hl
  obtain ⟨c, heq, hc'⟩ := csSamples_of_first_nine (l := l) hinv hu (by omega)
  exact ⟨c, by rw [runInstrs_sampleInstrs hc hl, heq], hc'⟩

/-! ## Samples in no window of any divider -/

/-- The state after `k` Samples in no window of any divider, from the start of a window: a loss for every ten of them,
each with a rotation, and the rest counted as errors (R127, R128). -/
def afterMisses (s : State) (k : Nat) : State := { s with
  cs := { CSState.reset (Divider.next^[k / 10] s.cs.divider) with
    hasSync := s.cs.hasSync && decide (k < 10)
    pulseCount := k % 10
    errorCount := k % 10 }
  line := if k < 10 then s.line else lineAfterLoss s.latched s.line
  trace := s.trace ++ List.replicate (k / 10) .lost }

theorem classify_of_neverMatches {x : Sample} (h : neverMatches x) (d : Divider) :
    classify d.shortRange d.longRange x.dur = .none := by
  obtain ⟨h16, h32, h64⟩ := h
  cases d with
  | d16 => exact h16
  | d32 => exact h32
  | d64 => exact h64

theorem lineAfterLoss_lineAfterLoss (c : ReadConfig) (l : LineState) :
    lineAfterLoss c (lineAfterLoss c l) = lineAfterLoss c l := by
  cases l <;> rfl

theorem afterMisses_zero {s : State} (hcs : s.cs.Inv) (hp : s.cs.pulseCount = 0) : afterMisses s 0 = s := by
  obtain ⟨cfg, latched, ⟨d, sync, short, long, pulse, err, hi, lo⟩, line, td, inbox, trace, coil, draws⟩ := s
  dsimp only [CSState.Inv] at hcs hp
  obtain ⟨rfl, rfl, -, -, hle, -⟩ := hcs
  obtain ⟨rfl, rfl, rfl⟩ : hi = 0 ∧ lo = 0 ∧ err = 0 := by omega
  simp [afterMisses, CSState.reset, hp]

/-- The Sample after the last of a ten, which loses lock. -/
theorem csSample_afterMisses_of_tenth {x : Sample} (hx : neverMatches x) (s : State) {k : Nat} (h9 : k % 10 = 9) :
    csSample x (afterMisses s k) = afterMisses s (k + 1) := by
  have hdiv : (k + 1) / 10 = k / 10 + 1 := by omega
  have hmod : (k + 1) % 10 = 0 := by omega
  have hge : ¬ k + 1 < 10 := by omega
  have hline : lineAfterLoss s.latched (if k < 10 then s.line else lineAfterLoss s.latched s.line) =
      lineAfterLoss s.latched s.line := by
    split
    · rfl
    · exact lineAfterLoss_lineAfterLoss _ _
  rw [csSample_of_tenth_error (classify_of_neverMatches hx _) h9]
  simp [afterMisses, hdiv, hmod, hge, hline, CSState.reset, Function.iterate_succ_apply', List.replicate_succ']

/-- Any other Sample in no window, which is counted as an error. -/
theorem csSample_afterMisses_of_not_tenth {x : Sample} (hx : neverMatches x) (s : State) {k : Nat} (h9 : k % 10 ≠ 9) :
    csSample x (afterMisses s k) = afterMisses s (k + 1) := by
  have hdiv : (k + 1) / 10 = k / 10 := by omega
  have hmod : (k + 1) % 10 = k % 10 + 1 := by omega
  have hlt : k + 1 < 10 ↔ k < 10 := by omega
  have hhi : (afterMisses s k).cs.hiCount = 0 := rfl
  rw [csSample_of_miss (classify_of_neverMatches hx _) (show k % 10 < 9 by omega),
    windowed_of_lt (show k % 10 + 1 < 50 by omega)]
  · simp [afterMisses, hdiv, hmod, hlt]
  · rw [CSState.count_none]
    exact CSState.not_acquires_of (by simp [hhi])

theorem csSamples_neverMatching {l : List Sample} {s : State} (hcs : s.cs.Inv) (hp : s.cs.pulseCount = 0)
    (hl : ∀ x ∈ l, neverMatches x) : csSamples l s = afterMisses s l.length := by
  induction l using List.reverseRecOn with
  | nil => exact (afterMisses_zero hcs hp).symm
  | append_singleton rest x ih =>
    obtain ⟨hrest, hx⟩ := List.forall_mem_append.mp hl
    rw [csSamples_concat, ih hrest, List.length_append, List.length_singleton]
    by_cases h9 : rest.length % 10 = 9
    · exact csSample_afterMisses_of_tenth (hx x (List.mem_singleton_self x)) s h9
    · exact csSample_afterMisses_of_not_tenth (hx x (List.mem_singleton_self x)) s h9

/-- The three orders of the dividers are the iterations of `Divider.next` (R128). -/
theorem dividerOrder_getElem? {order : List Divider} {d : Divider} {j : Nat}
    (ho : order ∈ [[.d16, .d32, .d64, .d16], [.d32, .d64, .d16, .d32], [.d64, .d16, .d32, .d64]])
    (h0 : order[0]? = some d) (hj : j ≤ 3) : order[j]? = some (Divider.next^[j] d) := by
  simp only [List.mem_cons, List.not_mem_nil, or_false] at ho
  obtain rfl | rfl | rfl := ho <;> cases h0 <;> interval_cases j <;> rfl

/-- Settles O15: after `k` Samples the state is `afterMisses`. -/
theorem neverMatchingInputCyclesTheDividers : Obligations.NeverMatchingInputCyclesTheDividers := by
  intro s l order k hc ⟨hcs, _⟩ hp hlen hl ho h0 hk
  have hmem : ∀ x ∈ l.take k, neverMatches x ∧ x.dur < 2 ^ s.latched.durW := fun x hx => hl x (List.mem_of_mem_take hx)
  have hlen' : (l.take k).length = k := by rw [List.length_take, hlen, Nat.min_eq_left hk]
  refine ⟨afterMisses s k, _, ?_, dividerOrder_getElem? ho h0 (by omega), rfl, rfl, rfl, rfl⟩
  rw [runInstrs_sampleInstrs hc fun x hx => (hmem x hx).2, csSamples_neverMatching hcs hp fun x hx => (hmem x hx).1, hlen']

end Sys2Proof.Machine
end

section
/-! PROOFS. Ideal pulse streams: what each line decoder makes of them by itself (R160, R161), and how a synchronized CORE
fed their Samples forwards them one by one and keeps its lock (R125, R130). -/

namespace Sys2Proof.Machine

/-! ## A line decoder on a stream of pulses -/

/-- What a line decoder's state becomes on pulses one after the other, and the bits it emits. -/
def LineState.pulses : LineState → List PulseEvent → LineState × List Bool
  | ln, [] => (ln, [])
  | ln, p :: rest => (((ln.pulse p).1.pulses rest).1, (ln.pulse p).2.toList ++ ((ln.pulse p).1.pulses rest).2)

theorem LineState.pulses_nil (ln : LineState) : ln.pulses [] = (ln, []) := rfl

theorem LineState.pulses_cons_silent {ln ln' : LineState} {p : PulseEvent} (h : ln.pulse p = (ln', none))
    (rest : List PulseEvent) : ln.pulses (p :: rest) = ln'.pulses rest := by
  simp [LineState.pulses, h]

theorem LineState.pulses_cons_bit {ln ln' : LineState} {p : PulseEvent} {b : Bool} (h : ln.pulse p = (ln', some b))
    (rest : List PulseEvent) : ln.pulses (p :: rest) = ((ln'.pulses rest).1, b :: (ln'.pulses rest).2) := by
  simp [LineState.pulses, h]

/-- BD at a bit boundary recovers an ideal Biphase stream of any starting level (R157, R161). -/
theorem biphase_pulses (start : Level) (bits : List Bool) :
    (LineState.biphase { lastWasShort := false }).pulses (biphasePulses start bits) =
      (.biphase { lastWasShort := false }, bits) := by
  induction bits generalizing start with
  | nil => rfl
  | cons b rest ih =>
    cases b with
    | true => rw [biphasePulses, LineState.pulses_cons_bit rfl, ih]
    | false => rw [biphasePulses, LineState.pulses_cons_silent rfl, LineState.pulses_cons_bit rfl, ih]

/-! ### Manchester pulses, cell by cell -/

theorem mergeHalfCells_cons (b : Bool) (l : List Bool) : ∃ n more, mergeHalfCells (b :: l) = (b, n) :: more := by
  rw [mergeHalfCells]
  split
  · exact ⟨1, [], rfl⟩
  · split_ifs with h
    · exact ⟨_, _, by rw [h]⟩
    · exact ⟨_, _, rfl⟩

/-- A half-cell before one of the other level is a run of its own. -/
theorem mergeHalfCells_change (b : Bool) (l : List Bool) :
    mergeHalfCells (b :: (!b) :: l) = (b, 1) :: mergeHalfCells ((!b) :: l) := by
  obtain ⟨n, more, hmerge⟩ := mergeHalfCells_cons (!b) l
  rw [mergeHalfCells, hmerge]
  exact if_neg (by simp)

theorem pulsesOfHalfCells_short (b : Bool) (l : List Bool) :
    pulsesOfHalfCells (b :: (!b) :: l) = ⟨Level.ofBit b, false⟩ :: pulsesOfHalfCells ((!b) :: l) := by
  rw [pulsesOfHalfCells, mergeHalfCells_change]
  rfl

theorem pulsesOfHalfCells_long (b : Bool) (l : List Bool) :
    pulsesOfHalfCells (b :: b :: (!b) :: l) = ⟨Level.ofBit b, true⟩ :: pulsesOfHalfCells ((!b) :: l) := by
  rw [pulsesOfHalfCells, mergeHalfCells, mergeHalfCells_change]
  simp [pulsesOfHalfCells]

theorem manchesterPulses_nil (last : Bool) : manchesterPulses last [] = [⟨Level.ofBit (!last), false⟩] := rfl

/-- A bit like the one before: two short pulses. -/
theorem manchesterPulses_cons_same (last : Bool) (rest : List Bool) : manchesterPulses last (last :: rest) =
    ⟨Level.ofBit (!last), false⟩ :: ⟨Level.ofBit last, false⟩ :: manchesterPulses last rest := by
  have hfirst := pulsesOfHalfCells_short (!last) ((!last) :: halfCells rest)
  rw [Bool.not_not] at hfirst
  exact hfirst.trans (congrArg _ (pulsesOfHalfCells_short last (halfCells rest)))

/-- A bit unlike the one before: one long pulse. -/
theorem manchesterPulses_cons_change (last : Bool) (rest : List Bool) : manchesterPulses last ((!last) :: rest) =
    ⟨Level.ofBit (!last), true⟩ :: manchesterPulses (!last) rest :=
  pulsesOfHalfCells_long (!last) (halfCells rest)

/-- MD idle at mid-cell of a cell of bit `last`. -/
abbrev LineState.idleAt (last : Bool) : LineState := .manchester { lastOutput := Level.ofBit last, timerRunning := false }

/-- MD armed at mid-cell of a cell of bit `last`, half a cell later. -/
abbrev LineState.armedAt (last : Bool) : LineState := .manchester { lastOutput := Level.ofBit last, timerRunning := true }

theorem idleAt_short (last : Bool) :
    (LineState.idleAt last).pulse ⟨Level.ofBit (!last), false⟩ = (.armedAt last, none) := by
  cases last <;> rfl

theorem idleAt_long (last : Bool) :
    (LineState.idleAt last).pulse ⟨Level.ofBit (!last), true⟩ = (.idleAt (!last), some (!last)) := by
  cases last <;> rfl

theorem armedAt_short (last : Bool) :
    (LineState.armedAt last).pulse ⟨Level.ofBit last, false⟩ = (.idleAt last, some last) := by
  cases last <;> rfl

/-- MD in phase recovers an ideal Manchester stream (R152, R154, R160). -/
theorem manchester_pulses (last : Bool) (bits : List Bool) :
    (LineState.idleAt last).pulses (manchesterPulses last bits) = (.armedAt (bits.getLastD last), bits) := by
  induction bits generalizing last with
  | nil => rw [manchesterPulses_nil, LineState.pulses_cons_silent (idleAt_short last)]; rfl
  | cons b rest ih =>
    by_cases hb : b = last
    · subst hb
      rw [manchesterPulses_cons_same, LineState.pulses_cons_silent (idleAt_short b),
        LineState.pulses_cons_bit (armedAt_short b), ih, List.getLastD_cons]
    · obtain rfl : b = !last := Bool.eq_not.mpr hb
      rw [manchesterPulses_cons_change, LineState.pulses_cons_bit (idleAt_long last), ih, List.getLastD_cons]

/-! ## One ideal Sample -/

@[simp] theorem deliverBitOf_line (o : Option Bool) (s : State) : (deliverBitOf o s).line = s.line := by
  cases o with
  | none => rfl
  | some b =>
    obtain ⟨-, hline⟩ := deliverBit_frame b s
    exact hline

theorem linePulse_line (p : PulseEvent) (s : State) : (linePulse p s).line = (s.line.pulse p).1 := by
  rw [linePulse_eq, deliverBitOf_line]

theorem deliverBitOf_td (o : Option Bool) (s : State) : (deliverBitOf o s).td = (tdBits o.toList s).td := by
  cases o with
  | none => rfl
  | some b => exact deliverBit_td b s

theorem linePulse_td (p : PulseEvent) (s : State) :
    (linePulse p s).td = (tdBits (s.line.pulse p).2.toList s).td := by
  rw [linePulse_eq, deliverBitOf_td]
  exact tdBits_td_congr _ rfl

/-- The Sample of exactly a divider's length has the length it stands for (R121, R122). -/
theorem classify_idealSample (d : Divider) (p : PulseEvent) :
    classify d.shortRange d.longRange (idealSample d p).dur = if p.isLong then .long else .short := by
  obtain ⟨level, isLong⟩ := p
  cases d <;> cases isLong <;> rfl

theorem idealSample_dur_lt (d : Divider) (p : PulseEvent) : (idealSample d p).dur < 2 ^ 10 := by
  dsimp only [idealSample]
  cases p.isLong <;> cases d <;> decide

/-- A synchronized CORE forwards exactly the pulse that an ideal Sample of its divider stands for (R125). -/
theorem csSample_idealSample {s : State} (p : PulseEvent) (hcs : s.cs.Inv) (hs : s.cs.hasSync = true) :
    csSample (idealSample s.cs.divider p) s = linePulse p (pulseForwarded p s) := by
  obtain ⟨hshort, hlong, -, herr, -⟩ := hcs
  have hclass : s.cs.classOf (idealSample s.cs.divider p) = if p.isLong then .long else .short := by
    rw [CSState.classOf, hshort, hlong, classify_idealSample]
  have hpulse : PulseEvent.mk (idealSample s.cs.divider p).level
      (decide (s.cs.classOf (idealSample s.cs.divider p) = .long)) = p := by
    obtain ⟨level, isLong⟩ := p
    rw [hclass]
    cases isLong <;> rfl
  have hmatch : s.cs.classOf (idealSample s.cs.divider p) ≠ .none := by
    rw [hclass]
    split <;> simp
  rw [csSample_of_forwarded hs (Nat.lt_succ_of_le herr) hmatch, hpulse]

/-! ## Streams of ideal Samples -/

/-- From `s` to `t` CORE has kept its lock and its divider, exactly `bits` have left the line decoder, and TD has
consumed them. -/
structure DecodedInLock (s : State) (bits : List Bool) (t : State) : Prop where
  hasSync : t.cs.hasSync = true
  divider : t.cs.divider = s.cs.divider
  td : t.td = (tdBits bits s).td
  events : ∃ l, t.trace = s.trace ++ l ∧ bitsOf l = bits ∧ .lost ∉ l ∧ ∀ d, .acquired d ∉ l

theorem DecodedInLock.refl {s : State} (hs : s.cs.hasSync = true) : DecodedInLock s [] s :=
  ⟨hs, rfl, rfl, [], by simp, rfl, by simp, by simp⟩

theorem DecodedInLock.trans {s t u : State} {a b : List Bool} (hst : DecodedInLock s a t) (htu : DecodedInLock t b u) :
    DecodedInLock s (a ++ b) u := by
  obtain ⟨l, hl, hbits, hlost, hacq⟩ := hst.events
  obtain ⟨m, hm, hbits', hlost', hacq'⟩ := htu.events
  refine ⟨htu.hasSync, htu.divider.trans hst.divider, ?td, l ++ m, ?trace, ?bits, ?lost, ?acquired⟩
  case td =>
    rw [htu.td, tdBits_td_congr b hst.td, tdBits, tdBits, tdBits, List.foldl_append]
  case trace => rw [hm, hl, List.append_assoc]
  case bits => rw [bitsOf, List.filterMap_append, ← hbits, ← hbits']; rfl
  case lost => simp [hlost, hlost']
  case acquired => simp [hacq, hacq']

theorem bitsOf_of_fromTD {m : List Event} (h : ∀ e ∈ m, e.fromTD = true) : bitsOf m = [] :=
  List.filterMap_eq_nil_iff.mpr fun e he => by
    have htd := h e he
    cases e with
    | bit => cases htd
    | _ => rfl

theorem bitsOf_pulse (p : PulseEvent) (o : Option Bool) {m : List Event} (h : ∀ e ∈ m, e.fromTD = true) :
    bitsOf (.pulse p :: (o.toList.map Event.bit ++ m)) = o.toList := by
  cases o with
  | none => exact (bitsOf_of_fromTD h : bitsOf m = [])
  | some b => exact congrArg (b :: ·) (bitsOf_of_fromTD h)

/-- One forwarded pulse: its bit leaves the decoder and enters TD, and lock is neither lost nor declared. -/
theorem linePulse_decodedInLock {s : State} (p : PulseEvent) (hs : s.cs.hasSync = true) :
    DecodedInLock s (s.line.pulse p).2.toList (linePulse p (pulseForwarded p s)) := by
  obtain ⟨hframe, -⟩ := linePulse_frame p (pulseForwarded p s)
  obtain ⟨m, hm, -, htd⟩ := linePulse_trace p (pulseForwarded p s)
  refine ⟨?hasSync, ?divider, ?td, .pulse p :: ((s.line.pulse p).2.toList.map Event.bit ++ m), ?trace, ?bits, ?lost,
    ?acquired⟩
  case hasSync =>
    rw [hframe.cs]
    exact (windowed_hasSync _).trans hs
  case divider =>
    rw [hframe.cs]
    exact windowed_divider _
  case td =>
    rw [linePulse_td]
    exact tdBits_td_congr _ rfl
  case trace =>
    rw [hm]
    exact List.append_assoc _ [_] _
  case bits =>
    exact bitsOf_pulse p _ htd
  case lost =>
    have hm' : Event.lost ∉ m := fun h => Event.ne_lost_of_fromTD (htd _ h) rfl
    simp [hm']
  case acquired =>
    intro d
    have hm' : Event.acquired d ∉ m := fun h => Event.ne_acquired_of_fromTD d (htd _ h) rfl
    simp [hm']

/-- CORE on ideal Samples of its divider does what the line decoder by itself does on their pulses. -/
theorem csSamples_idealSamples (ps : List PulseEvent) {s : State} (hinv : s.Inv) (hs : s.cs.hasSync = true) :
    (csSamples (ps.map (idealSample s.cs.divider)) s).line = (s.line.pulses ps).1 ∧
      DecodedInLock s (s.line.pulses ps).2 (csSamples (ps.map (idealSample s.cs.divider)) s) := by
  induction ps generalizing s with
  | nil => exact ⟨rfl, .refl hs⟩
  | cons p rest ih =>
    have ⟨hcs, _⟩ := hinv
    have hfirst := linePulse_decodedInLock p hs
    have hline : (linePulse p (pulseForwarded p s)).line = (s.line.pulse p).1 := linePulse_line _ _
    have hinv' := csSample_inv (idealSample s.cs.divider p) hinv
    rw [csSample_idealSample p hcs hs] at hinv'
    obtain ⟨hrestLine, hrest⟩ := ih hinv' hfirst.hasSync
    rw [hfirst.divider, hline] at hrestLine hrest
    rw [List.map_cons, csSamples_cons, csSample_idealSample p hcs hs]
    exact ⟨hrestLine, hfirst.trans hrest⟩

/-- A stream that the line decoder by itself reads as `bits`, put to CORE as ideal Samples. -/
theorem runInstrs_idealSamples {s : State} {ps : List PulseEvent} {ln : LineState} {bits : List Bool} (hc : s.Configured)
    (hinv : s.Inv) (hs : s.cs.hasSync = true) (hw : 10 ≤ s.latched.durW) (hps : s.line.pulses ps = (ln, bits)) :
    ∃ t, runInstrs (sampleInstrs (ps.map (idealSample s.cs.divider))) s = .next t ∧
      bitsOf (newEvents s t) = bits ∧ t.td = (tdBits bits s).td ∧ t.cs.hasSync = true ∧
      t.cs.divider = s.cs.divider ∧ Event.lost ∉ newEvents s t ∧ (∀ d, Event.acquired d ∉ newEvents s t) ∧
      t.line = ln := by
  obtain ⟨hline, hdec⟩ := csSamples_idealSamples ps hinv hs
  rw [hps] at hline hdec
  obtain ⟨l, htrace, hbits, hlost, hacq⟩ := hdec.events
  have hfits : ∀ x ∈ ps.map (idealSample s.cs.divider), x.dur < 2 ^ s.latched.durW :=
    List.forall_mem_map.mpr fun p _ => (idealSample_dur_lt _ p).trans_le (Nat.pow_le_pow_right two_pos hw)
  refine ⟨_, runInstrs_sampleInstrs hc hfits, ?_⟩
  rw [newEvents_of_trace htrace]
  exact ⟨hbits, hdec.td, hdec.hasSync, hdec.divider, hlost, hacq, hline⟩

/-- Settles O26: each decoder by itself reads its ideal stream as the bits, and CORE does what its decoder does. -/
theorem synchronizedCoreDecodesIdealSamples : Obligations.SynchronizedCoreDecodesIdealSamples := by
  intro s bits hc hinv hs hw
  refine ⟨fun start hl => ?biphase, fun last hl => ?manchester⟩
  case biphase => exact runInstrs_idealSamples hc hinv hs hw (hl ▸ biphase_pulses start bits)
  case manchester => exact runInstrs_idealSamples hc hinv hs hw (hl ▸ manchester_pulses last bits)

end Sys2Proof.Machine
end

section
/-! PROOFS. The four operations of the line decoders, by what each does to the decoder that is there and by the refusal
where it is not (R151 to R153, R155, R157, R158). -/

namespace Sys2Proof.Machine

/-! ## `MD.PULSE` and `BD.PULSE`, case by case -/

section
variable {md : MDState} {bd : BDState} {p : PulseEvent}

/-- MD commits: armed, whatever the pulse. -/
theorem mdPulse_of_armed (s : State) (ht : md.timerRunning = true) : mdPulse md p s =
    deliverBit p.level.bit { s with line := .manchester { lastOutput := p.level, timerRunning := false } } := by
  simp [mdPulse, ht]

/-- MD commits: idle, on a long pulse of the other level. -/
theorem mdPulse_of_idle_long (s : State) (ht : md.timerRunning = false) (hl : p.level ≠ md.lastOutput)
    (hp : p.isLong = true) : mdPulse md p s =
      deliverBit p.level.bit { s with line := .manchester { lastOutput := p.level, timerRunning := false } } := by
  simp [mdPulse, ht, hl, hp]

/-- MD arms: idle, on a short pulse of the other level. -/
theorem mdPulse_of_idle_short (s : State) (ht : md.timerRunning = false) (hl : p.level ≠ md.lastOutput)
    (hp : p.isLong = false) :
    mdPulse md p s = { s with line := .manchester { lastOutput := md.lastOutput, timerRunning := true } } := by
  simp [mdPulse, ht, hl, hp]

/-- MD ignores a pulse of its own level while idle. -/
theorem mdPulse_of_idle_same_level (s : State) (ht : md.timerRunning = false) (hl : p.level = md.lastOutput) :
    mdPulse md p s = s := by
  simp [mdPulse, ht, hl]

/-- BD emits 1 on a long pulse, pending or not. -/
theorem bdPulse_of_long (s : State) (hp : p.isLong = true) :
    bdPulse bd p s = deliverBit true { s with line := .biphase { lastWasShort := false } } := by
  simp [bdPulse, hp]

/-- BD emits 0 on the second of two short pulses. -/
theorem bdPulse_of_second_short (s : State) (hp : p.isLong = false) (hb : bd.lastWasShort = true) :
    bdPulse bd p s = deliverBit false { s with line := .biphase { lastWasShort := false } } := by
  simp [bdPulse, hp, hb]

/-- BD holds the first of two short pulses. -/
theorem bdPulse_of_first_short (s : State) (hp : p.isLong = false) (hb : bd.lastWasShort = false) :
    bdPulse bd p s = { s with line := .biphase { lastWasShort := true } } := by
  simp [bdPulse, hp, hb]

end

/-! ## The configured decoder's operations -/

theorem exec_mdPulse {s : State} {md : MDState} (level : Level) (isLong : Bool) (hc : s.Configured)
    (hl : s.line = .manchester md) : exec (.mdPulse level isLong) s = .next (mdPulse md ⟨level, isLong⟩ s) :=
  whenManchester_of (fun md => mdPulse md ⟨level, isLong⟩) hc hl

theorem exec_bdPulse {s : State} {bd : BDState} (level : Level) (isLong : Bool) (hc : s.Configured)
    (hl : s.line = .biphase bd) : exec (.bdPulse level isLong) s = .next (bdPulse bd ⟨level, isLong⟩ s) :=
  whenBiphase_of (fun bd => bdPulse bd ⟨level, isLong⟩) hc hl

/-- Settles O19: the two ways to commit are one branch of the statement, arming and ignoring the other two. -/
theorem mdPulseFollowsItsRule : Obligations.MdPulseFollowsItsRule := by
  intro s md level isLong hc hline
  rw [exec_mdPulse level isLong hc hline]
  refine congrArg Host.Outcome.next ?_
  cases ht : md.timerRunning with
  | true =>
    rw [mdPulse_of_armed s ht, if_pos (.inl rfl)]
    rfl
  | false =>
    by_cases hl : level = md.lastOutput
    · rw [mdPulse_of_idle_same_level s ht hl, if_neg (by simp [hl]), if_neg (not_not.mpr hl)]
    · cases isLong with
      | true =>
        rw [mdPulse_of_idle_long s ht hl rfl, if_pos (.inr ⟨hl, rfl⟩)]
        rfl
      | false => rw [mdPulse_of_idle_short s ht hl rfl, if_neg (by simp), if_pos hl]

/-- Settles O21: the length is looked at first, then the pending flag. -/
theorem bdPulseFollowsItsRule : Obligations.BdPulseFollowsItsRule := by
  intro s bd level isLong hc hline
  rw [exec_bdPulse level isLong hc hline]
  refine congrArg Host.Outcome.next ?_
  cases isLong with
  | true =>
    rw [bdPulse_of_long s rfl, if_pos rfl]
    rfl
  | false =>
    cases hb : bd.lastWasShort with
    | true =>
      rw [bdPulse_of_second_short s rfl hb, if_neg Bool.false_ne_true, if_pos rfl]
      rfl
    | false => rw [bdPulse_of_first_short s rfl hb, if_neg Bool.false_ne_true, if_neg Bool.false_ne_true]

/-- Settles O20: MD is there and the configuration is the sampled one, so the guard lets `mdSyncLost` run. -/
theorem mdSyncLostResetsTheDecoder : Obligations.MdSyncLostResetsTheDecoder :=
  fun _ _ hc hline => whenManchester_of (fun _ => mdSyncLost) hc hline

/-- Settles O22: BD is there and the configuration is the sampled one, so the guard lets `bdSyncLost` run. -/
theorem bdSyncLostClearsThePendingFlag : Obligations.BdSyncLostClearsThePendingFlag :=
  fun _ _ hc hline => whenBiphase_of (fun _ => bdSyncLost) hc hline

/-! ## The absent decoder's operations -/

theorem whenManchester_of_biphase {s : State} {bd : BDState} (k : MDState → State → State) (hl : s.line = .biphase bd) :
    whenManchester s k = .refused .decoderAbsent := by
  simp [whenManchester, hl]

theorem whenBiphase_of_manchester {s : State} {md : MDState} (k : BDState → State → State)
    (hl : s.line = .manchester md) : whenBiphase s k = .refused .decoderAbsent := by
  simp [whenBiphase, hl]

/-- Settles O23: the guard of an operation finds the other decoder, whatever the configuration. -/
theorem absentDecoderIsRefused : Obligations.AbsentDecoderIsRefused :=
  ⟨fun _ _ _ _ hl => ⟨whenManchester_of_biphase _ hl, whenManchester_of_biphase _ hl⟩,
    fun _ _ _ _ hl => ⟨whenBiphase_of_manchester _ hl, whenBiphase_of_manchester _ hl⟩⟩

end Sys2Proof.Machine
end

section
/-! PROOFS. The configured line decoder fed pulses one after the other at its own port: what it does by itself, and TD
consuming its bits in order (R67, R151); on the ideal streams of R160 and R161 those are the bits encoded. -/

namespace Sys2Proof.Machine

/-! ## Pulses one after the other -/

/-- A PulseEvent as the operation of a line code's decoder. -/
def pulseInstr (c : LineCode) (p : PulseEvent) : Instr :=
  match c with
  | .manchester => .mdPulse p.level p.isLong
  | .biphase => .bdPulse p.level p.isLong

theorem exec_pulseInstr {s : State} (p : PulseEvent) (hc : s.Configured) :
    exec (pulseInstr s.line.code p) s = .next (linePulse p s) := by
  cases hl : s.line with
  | manchester md =>
    rw [linePulse_of_manchester p hl]
    exact exec_mdPulse p.level p.isLong hc hl
  | biphase bd =>
    rw [linePulse_of_biphase p hl]
    exact exec_bdPulse p.level p.isLong hc hl

/-- The configured decoder consumes PulseEvents one after the other. -/
def linePulses (ps : List PulseEvent) (s : State) : State := ps.foldl (fun s p => linePulse p s) s

@[simp] theorem linePulses_nil (s : State) : linePulses [] s = s := rfl

@[simp] theorem linePulses_cons (p : PulseEvent) (ps : List PulseEvent) (s : State) :
    linePulses (p :: ps) s = linePulses ps (linePulse p s) := rfl

/-- A pulse keeps the configuration and the line code, so the pulses complete one after the other. -/
theorem runInstrs_pulseInstrs (ps : List PulseEvent) {s : State} (hc : s.Configured) :
    runInstrs (ps.map (pulseInstr s.line.code)) s = .next (linePulses ps s) := by
  induction ps generalizing s with
  | nil => rfl
  | cons p rest ih =>
    obtain ⟨hframe, hcode⟩ := linePulse_frame p s
    rw [List.map_cons, runInstrs, exec_pulseInstr p hc, linePulses_cons, ← hcode]
    exact ih (by rw [State.Configured, hframe.cfg, hframe.latched, hc])

/-! ## What the pulses bring about -/

theorem tdBits_append (a b : List Bool) (s : State) : tdBits (a ++ b) s = tdBits b (tdBits a s) := List.foldl_append

theorem bitsOf_append (l m : List Event) : bitsOf (l ++ m) = bitsOf l ++ bitsOf m := List.filterMap_append

/-- From `s` to `t` exactly `bits` have left the line decoder, TD has consumed them, and CS has been left alone. -/
structure DecodedByLine (s : State) (bits : List Bool) (t : State) : Prop where
  cs : t.cs = s.cs
  td : t.td = (tdBits bits s).td
  events : ∃ l, t.trace = s.trace ++ l ∧ bitsOf l = bits

theorem DecodedByLine.refl (s : State) : DecodedByLine s [] s := ⟨rfl, rfl, [], (List.append_nil _).symm, rfl⟩

theorem DecodedByLine.trans {s t u : State} {a b : List Bool} (hst : DecodedByLine s a t) (htu : DecodedByLine t b u) :
    DecodedByLine s (a ++ b) u := by
  obtain ⟨l, hl, hbits⟩ := hst.events
  obtain ⟨m, hm, hbits'⟩ := htu.events
  refine ⟨htu.cs.trans hst.cs, ?td, l ++ m, ?trace, ?bits⟩
  case td => rw [htu.td, tdBits_td_congr b hst.td, tdBits_append]
  case trace => rw [hm, hl, List.append_assoc]
  case bits => rw [bitsOf_append, hbits, hbits']

/-- One pulse: the bit of the decoder's own rule, if any, is recorded and enters TD. -/
theorem linePulse_decoded (p : PulseEvent) (s : State) : DecodedByLine s (s.line.pulse p).2.toList (linePulse p s) := by
  obtain ⟨hframe, -⟩ := linePulse_frame p s
  obtain ⟨m, hm, -, htd⟩ := linePulse_trace p s
  exact ⟨hframe.cs, linePulse_td p s, _, hm, bitsOf_pulse p _ htd⟩

/-- CORE on pulses at the decoder's port does what the decoder does by itself. -/
theorem linePulses_decoded (ps : List PulseEvent) (s : State) :
    (linePulses ps s).line = (s.line.pulses ps).1 ∧ DecodedByLine s (s.line.pulses ps).2 (linePulses ps s) := by
  induction ps generalizing s with
  | nil => exact ⟨rfl, .refl s⟩
  | cons p rest ih =>
    obtain ⟨hrestLine, hrest⟩ := ih (linePulse p s)
    rw [linePulse_line] at hrestLine hrest
    exact ⟨hrestLine, (linePulse_decoded p s).trans hrest⟩

/-! ## Ideal streams -/

/-- A stream that the line decoder by itself reads as `bits`, put to its port. -/
theorem runInstrs_pulses_decoded {s : State} {ps : List PulseEvent} {ln ln' : LineState} {bits : List Bool}
    (hc : s.Configured) (hl : s.line = ln) (hps : ln.pulses ps = (ln', bits)) :
    ∃ t, runInstrs (ps.map (pulseInstr ln.code)) s = .next t ∧ bitsOf (newEvents s t) = bits ∧
      t.td = (tdBits bits s).td ∧ t.cs = s.cs ∧ t.line = ln' := by
  subst hl
  obtain ⟨hline, hdec⟩ := linePulses_decoded ps s
  rw [hps] at hline hdec
  obtain ⟨l, htrace, hbits⟩ := hdec.events
  refine ⟨_, runInstrs_pulseInstrs ps hc, ?_⟩
  rw [newEvents_of_trace htrace]
  exact ⟨hbits, hdec.td, hdec.cs, hline⟩

/-- Settles O24: MD by itself reads its ideal stream as the bits (`manchester_pulses`, by induction on them). -/
theorem manchesterDecoderRecoversTheBits : Obligations.ManchesterDecoderRecoversTheBits :=
  fun _ last bits hc hl => runInstrs_pulses_decoded hc hl (manchester_pulses last bits)

/-- Settles O25: BD by itself reads its ideal stream as the bits (`biphase_pulses`, by induction on them). -/
theorem biphaseDecoderRecoversTheBits : Obligations.BiphaseDecoderRecoversTheBits :=
  fun _ start bits hc hl => runInstrs_pulses_decoded hc hl (biphase_pulses start bits)

end Sys2Proof.Machine
end

section
/-! PROOFS. `TD.BIT` case by case: the run of ones, the four bits of a group, its fifth bit, the last group (R171 to R178). -/

namespace Sys2Proof

/-! ## A bit entering a nibble, a nibble entering a byte -/

/-- A nibble with one bit more, at bit 0, and the others moved up (R172). -/
def Nibble.shiftIn (n : Nibble) (b : Bool) : Nibble := n <<< 1 ||| (BitVec.ofBool b).setWidth 4

theorem Nibble.getLsbD_shiftIn_zero : ∀ (n : Nibble) (b : Bool), (n.shiftIn b).getLsbD 0 = b := by decide

theorem Nibble.getLsbD_shiftIn_succ : ∀ (n : Nibble) (b : Bool), ∀ k < 3, (n.shiftIn b).getLsbD (k + 1) = n.getLsbD k := by
  decide

/-- A byte with one half written: the high one or the low one (R175). -/
def Byte.putHalf (b : Byte) (high : Bool) (n : Nibble) : Byte :=
  if high then n.setWidth 8 <<< 4 ||| (b &&& 0x0F) else (b &&& 0xF0) ||| n.setWidth 8

theorem Byte.putHalf_high (b : Byte) (n : Nibble) : Byte.putHalf b true n = n ++ b.extractLsb' 0 4 := by
  refine BitVec.eq_of_getLsbD_eq fun i hi => ?_
  interval_cases i
  all_goals
    simp (disch := omega) only [getLsbD_append_low, getLsbD_append_high]
    simp [Byte.putHalf]

theorem Byte.putHalf_low (b : Byte) (n : Nibble) : Byte.putHalf b false n = b.extractLsb' 4 4 ++ n := by
  refine BitVec.eq_of_getLsbD_eq fun i hi => ?_
  interval_cases i
  all_goals
    simp (disch := omega) only [getLsbD_append_low, getLsbD_append_high]
    simp [Byte.putHalf]

end Sys2Proof

namespace Sys2Proof.Machine

theorem Frame.byte_putNibble_same (f : Frame) {k : Nat} (hk : k < 6) (high : Bool) (n : Nibble) :
    (f.putNibble k high n).byte k = Byte.putHalf (f.byte k) high n := by
  interval_cases k <;> rfl

/-- No byte past the sixth exists. -/
theorem Frame.putNibble_of_le (f : Frame) {k : Nat} (hk : 6 ≤ k) (high : Bool) (n : Nibble) : f.putNibble k high n = f := by
  obtain ⟨i, rfl⟩ := Nat.exists_eq_add_of_le' hk
  rfl

theorem Frame.byte_putNibble_of_ne (f : Frame) {k i : Nat} (hi : i ≠ k) (high : Bool) (n : Nibble) :
    (f.putNibble k high n).byte i = f.byte i := by
  obtain hk | hk : k < 6 ∨ 6 ≤ k := Nat.lt_or_ge k 6
  · interval_cases k
    all_goals
      simp only [Frame.byte]
      split <;> simp [Frame.putNibble] at hi ⊢
  · rw [Frame.putNibble_of_le f hk]

/-! ## The column check -/

/-- The XOR of the ten data nibbles of a frame (R176). -/
def Frame.columnNibble (f : Frame) : Nibble :=
  nibbleXor f.b0 ^^^ nibbleXor f.b1 ^^^ nibbleXor f.b2 ^^^ nibbleXor f.b3 ^^^ nibbleXor f.b4

/-- Folding a byte puts the XOR of its nibbles in the high half. -/
theorem foldByte_eq (b : Byte) : foldByte b = nibbleXor b ++ (0 : Nibble) := by
  refine BitVec.eq_of_getLsbD_eq fun i hi => ?_
  interval_cases i
  all_goals
    simp (disch := omega) only [getLsbD_append_low, getLsbD_append_high]
    simp [foldByte, nibbleXor]

theorem highHalf_xor (a b : Nibble) : (a ++ (0 : Nibble)) ^^^ (b ++ (0 : Nibble)) = (a ^^^ b) ++ (0 : Nibble) :=
  BitVec.xor_append

theorem highHalf_inj {a b : Nibble} : a ++ (0 : Nibble) = b ++ (0 : Nibble) ↔ a = b := by
  refine ⟨fun h => ?_, fun h => by rw [h]⟩
  rw [← BitVec.extractLsb'_append_eq_left (a := a) (b := (0 : Nibble)), h, BitVec.extractLsb'_append_eq_left]

theorem Frame.column_eq (f : Frame) : f.column = f.columnNibble ++ (0 : Nibble) := by
  simp only [Frame.column, Frame.columnNibble, foldByte_eq, highHalf_xor]

/-- With byte 5 clear before, the check compares the packed column nibble with the XOR of the data nibbles. -/
theorem Frame.columnHolds_putColumn {f : Frame} (h5 : f.b5 = 0) (n : Nibble) :
    (f.putNibble 5 true n).columnHolds = decide (f.columnNibble = n) := by
  have hcolumn : (f.putNibble 5 true n).column = f.columnNibble ++ (0 : Nibble) := f.column_eq
  have hb5 : (f.putNibble 5 true n).b5 = n ++ f.b5.extractLsb' 0 4 := Byte.putHalf_high f.b5 n
  rw [Frame.columnHolds, hcolumn, hb5, h5, beq_eq_decide, decide_eq_decide]
  exact highHalf_inj

/-! ## The operations of TD, branch by branch -/

theorem exec_tdBit {s : State} (b : Bool) (h : s.Configured) : exec (.tdBit b) s = .next (tdBit b s) :=
  whenConfigured_of _ h

section
variable {s : State} {b : Bool}

theorem tdPreambleBit_of_zero (s : State) : tdPreambleBit false s = { s with td := { s.td with onesCount := 0 } } := rfl

theorem tdPreambleBit_of_one (h : s.td.onesCount ≠ 8) :
    tdPreambleBit true s = { s with td := { s.td with onesCount := s.td.onesCount + 1 } } := by
  simp [tdPreambleBit, h]

theorem tdPreambleBit_of_ninth_one (h : s.td.onesCount = 8) :
    tdPreambleBit true s = { s with td := TDState.cleared .data } := by
  simp [tdPreambleBit, h]

theorem tdDataBit_eq (b : Bool) (s : State) :
    tdDataBit b s = { s with td := { s.td with nibBuf := s.td.nibBuf.shiftIn b, fill := s.td.fill + 1 } } := rfl

theorem tdFifthBit_of_rowParity_ne (hj : s.td.nibIdx ≤ 9) (hb : b ≠ parity4 s.td.nibBuf) :
    tdFifthBit b s = takeFramingFault .rowParity s.td.nibIdx s := by
  simp [tdFifthBit, TDState.rowParityFails, hj, hb]

theorem tdFifthBit_of_rowParity_eq (hj : s.td.nibIdx ≤ 9) : tdFifthBit (parity4 s.td.nibBuf) s = tdPack s := by
  have hrow : s.td.rowParityFails (parity4 s.td.nibBuf) = false := by simp [TDState.rowParityFails]
  have hstop : s.td.stopBitFails (parity4 s.td.nibBuf) = false := by
    simp [TDState.stopBitFails, show s.td.nibIdx ≠ 10 by omega]
  have hlast : s.td.nibIdx + 1 ≠ 11 := by omega
  simp [tdFifthBit, hrow, hstop, hlast]

theorem tdFifthBit_of_last_one (hj : s.td.nibIdx = 10) : tdFifthBit true s = takeFramingFault .stopBit 10 s := by
  simp [tdFifthBit, TDState.rowParityFails, TDState.stopBitFails, hj]

theorem tdFifthBit_of_last_zero (hj : s.td.nibIdx = 10) : tdFifthBit false s = tdFinish (tdPack s) := by
  simp [tdFifthBit, TDState.rowParityFails, TDState.stopBitFails, hj]

/-- The Token or the column-parity fault: one output either way, and TD in its reset state. -/
theorem tdFinish_eq (s : State) : tdFinish s = { s with
    td := TDState.reset
    trace := s.trace ++ [if s.td.frame.columnHolds then
        .token s.td.frame.b0 (s.td.frame.b1 ++ s.td.frame.b2 ++ s.td.frame.b3 ++ s.td.frame.b4)
      else .framingFault .columnParity 10] } := by
  unfold tdFinish
  split <;> rfl

/-- The stop bit is looked at first; the column is compared only behind a good one. -/
theorem tdFifthBit_of_last (b : Bool) (hj : s.td.nibIdx = 10) (h5 : s.td.frame.b5 = 0) : tdFifthBit b s = { s with
    td := TDState.reset
    trace := s.trace ++ [
      if b = true then .framingFault .stopBit 10
      else if s.td.frame.columnNibble = s.td.nibBuf then
        .token s.td.frame.b0 (s.td.frame.b1 ++ s.td.frame.b2 ++ s.td.frame.b3 ++ s.td.frame.b4)
      else .framingFault .columnParity 10] } := by
  cases b with
  | true =>
    rw [tdFifthBit_of_last_one hj]
    rfl
  | false =>
    have hframe : (tdPack s).td.frame = s.td.frame.putNibble 5 true s.td.nibBuf := by simp [tdPack, hj]
    have hcolumn : (tdPack s).td.frame.columnHolds = decide (s.td.frame.columnNibble = s.td.nibBuf) := by
      rw [hframe, Frame.columnHolds_putColumn h5]
    rw [tdFifthBit_of_last_zero hj, tdFinish_eq, hcolumn, hframe]
    simp [tdPack, Frame.putNibble]

end

/-! ## The statements about one bit -/

/-- Settles O27, by the three branches of `Preamble`. -/
theorem preambleBitCountsOnes : Obligations.PreambleBitCountsOnes := by
  intro s hc hm
  simp only [exec_tdBit _ hc, tdBit_preamble hm]
  refine ⟨?zero, fun hn => ?one, fun hn => ?ninth⟩
  case zero => rw [tdPreambleBit_of_zero]
  case one => rw [tdPreambleBit_of_one hn]
  case ninth =>
    rw [tdPreambleBit_of_ninth_one hn]
    rfl

/-- Settles O28: the nibble is the old one with the bit shifted in. -/
theorem dataBitEntersTheNibble : Obligations.DataBitEntersTheNibble := by
  intro s b hc hm hf
  refine ⟨s.td.nibBuf.shiftIn b, Nibble.getLsbD_shiftIn_zero _ _, Nibble.getLsbD_shiftIn_succ _ _, ?_⟩
  rw [exec_tdBit b hc, tdBit_data hm hf, tdDataBit_eq]

/-- Settles O29: the row parity is what a fifth bit of groups 0 to 9 is tested for first. -/
theorem rowParityMismatchTakesTheFault : Obligations.RowParityMismatchTakesTheFault := by
  intro s b hc hm hf hj hb
  rw [exec_tdBit b hc, tdBit_fifth hm (by omega), tdFifthBit_of_rowParity_ne hj hb]
  rfl

/-- Settles O30: the frame is the old one with the nibble put into one half of byte `j/2`. -/
theorem acceptedGroupIsPacked : Obligations.AcceptedGroupIsPacked := by
  intro s hc hm hf hj
  have hbyte := s.td.frame.byte_putNibble_same (k := s.td.nibIdx / 2) (by omega) (s.td.nibIdx % 2 == 0) s.td.nibBuf
  refine ⟨s.td.frame.putNibble (s.td.nibIdx / 2) (s.td.nibIdx % 2 == 0) s.td.nibBuf, ?next, ?others, fun he => ?even,
    fun ho => ?odd⟩
  case next =>
    rw [exec_tdBit _ hc, tdBit_fifth hm (by omega), tdFifthBit_of_rowParity_eq hj]
    rfl
  case others => exact fun i hi => Frame.byte_putNibble_of_ne _ hi _ _
  case even =>
    rw [hbyte, he, beq_self_eq_true, Byte.putHalf_high]
    exact ⟨BitVec.extractLsb'_append_eq_left, BitVec.extractLsb'_append_eq_right⟩
  case odd =>
    rw [hbyte, ho, show (1 == 0) = false from rfl, Byte.putHalf_low]
    exact ⟨BitVec.extractLsb'_append_eq_right, BitVec.extractLsb'_append_eq_left⟩

/-- Settles O31, with the column check as the XOR of the ten data nibbles. -/
theorem lastGroupEmitsTokenOrFault : Obligations.LastGroupEmitsTokenOrFault := by
  intro s b hc hm hf hj h5
  rw [exec_tdBit b hc, tdBit_fifth hm (by omega), tdFifthBit_of_last b hj h5]
  rfl

end Sys2Proof.Machine
end

section
/-! PROOFS. Bits into TD from its reset state: the preamble, a group, a whole frame; so constant streams (R181) and a frame
with one bit flipped (R182). -/

namespace Sys2Proof.Machine

/-! ## Flipping a bit of a list -/

theorem flipBit_append_left {a : List Bool} (b : List Bool) {k : Nat} (hk : k < a.length) :
    flipBit (a ++ b) k = flipBit a k ++ b := by
  have hrest : b.mapIdx (fun i x => if i + a.length = k then !x else x) = b := by
    refine List.ext_getElem (by simp) fun i _ _ => ?_
    simp [show i + a.length ≠ k by omega]
  rw [flipBit, List.mapIdx_append, hrest, flipBit]

theorem flipBit_append_right (a b : List Bool) (k : Nat) : flipBit (a ++ b) (a.length + k) = a ++ flipBit b k := by
  have hfirst : a.mapIdx (fun i x => if i = a.length + k then !x else x) = a := by
    refine List.ext_getElem (by simp) fun i _ hi => ?_
    simp [show i ≠ a.length + k by omega]
  rw [flipBit, List.mapIdx_append, hfirst, flipBit]
  simp [Nat.add_comm _ a.length]

/-! ## A valid frame as its groups -/

/-- A group of a valid frame: the nibble, most significant bit first, and its parity (R86). -/
def groupBits (n : Nibble) : List Bool := msbFirst n ++ [parity4 n]

@[simp] theorem length_groupBits (n : Nibble) : (groupBits n).length = 5 := by simp [groupBits]

theorem length_flatMap_groupBits (l : List Nibble) : (l.flatMap groupBits).length = 5 * l.length := by
  induction l with
  | nil => rfl
  | cons n rest ih =>
    simp only [List.flatMap_cons, List.length_append, length_groupBits, ih, List.length_cons]
    omega

theorem validFrame_eq_groups (id : Byte) (token : Word32) : validFrame id token =
    List.replicate 9 true ++ (nibblesOf id token).flatMap groupBits ++ (msbFirst (columnOf id token) ++ [false]) := by
  simp only [validFrame, airFrame, rowsOf, BitVec.getLsbD_append]
  simp [nibblesOf, groupBits]

/-- What a valid frame sends before group `j`. -/
def beforeGroup (id : Byte) (token : Word32) (j : Nat) : List Bool :=
  List.replicate 9 true ++ ((nibblesOf id token).take j).flatMap groupBits

theorem length_nibblesOf (id : Byte) (token : Word32) : (nibblesOf id token).length = 10 := rfl

theorem length_beforeGroup (id : Byte) (token : Word32) {j : Nat} (hj : j ≤ 10) :
    (beforeGroup id token j).length = 9 + 5 * j := by
  rw [beforeGroup, List.length_append, List.length_replicate, length_flatMap_groupBits, List.length_take,
    length_nibblesOf, Nat.min_eq_left hj]

/-- A valid frame, cut at one of its ten data groups. -/
theorem validFrame_eq_beforeGroup (id : Byte) (token : Word32) {j : Nat} (hj : j < 10) :
    ∃ n rest, validFrame id token = beforeGroup id token j ++ (groupBits n ++ rest) := by
  have hlt : j < (nibblesOf id token).length := hj
  refine ⟨(nibblesOf id token)[j], ((nibblesOf id token).drop (j + 1)).flatMap groupBits
    ++ (msbFirst (columnOf id token) ++ [false]), ?_⟩
  have hcut : (nibblesOf id token).flatMap groupBits = ((nibblesOf id token).take j).flatMap groupBits
      ++ (groupBits (nibblesOf id token)[j] ++ ((nibblesOf id token).drop (j + 1)).flatMap groupBits) := by
    rw [← List.flatMap_cons, ← List.flatMap_append, List.cons_getElem_drop_succ, List.take_append_drop]
  rw [validFrame_eq_groups, hcut, beforeGroup]
  simp only [List.append_assoc]

/-- A valid frame, cut before its column nibble. -/
theorem validFrame_eq_beforeColumn (id : Byte) (token : Word32) :
    validFrame id token = beforeGroup id token 10 ++ (msbFirst (columnOf id token) ++ [false]) := validFrame_eq_groups id token

/-- A group with one bit flipped is four bits and a fifth one that is not their parity. -/
theorem flipBit_groupBits : ∀ (n : Nibble), ∀ k < 5, ∃ m : Nibble, flipBit (groupBits n) k = msbFirst m ++ [!parity4 m] := by
  decide

theorem flipBit_msbFirst : ∀ (n : Nibble), ∀ k < 4, ∃ m : Nibble, m ≠ n ∧ flipBit (msbFirst n) k = msbFirst m := by
  decide

theorem flipBit_stopBit : ∀ n : Nibble, flipBit (msbFirst n ++ [false]) 4 = msbFirst n ++ [true] := by decide

/-! ## TD on the parts of a frame -/

/-- TD inside group `j`, with what it has packed so far and `fill` bits of the group. -/
def TDState.inGroup (j : Nat) (f : Frame) (nib : Nibble) (fill : Nat) : TDState :=
  { mode := .data, onesCount := 0, nibBuf := nib, fill := fill, nibIdx := j, frame := f }

/-- The frame after accepted groups from group `j` on (R175). -/
def Frame.pack (f : Frame) (j : Nat) : List Nibble → Frame
  | [] => f
  | n :: rest => (f.putNibble (j / 2) (j % 2 == 0) n).pack (j + 1) rest

theorem tdBits_cons (b : Bool) (rest : List Bool) (s : State) : tdBits (b :: rest) s = tdBits rest (tdBit b s) := rfl

theorem tdBits_singleton (b : Bool) (s : State) : tdBits [b] s = tdBit b s := rfl

theorem State.eq_with_td {s : State} {td : TDState} (h : s.td = td) : s = { s with td := td } := by
  subst h
  rfl

/-- A run of ones shorter than the preamble. -/
theorem tdBits_ones_of_lt {s : State} {m : Nat} (h : s.td = TDState.reset) (hm : m < 9) :
    tdBits (List.replicate m true) s = { s with td := { TDState.reset with onesCount := m } } := by
  induction m with
  | zero => exact State.eq_with_td h
  | succ m ih =>
    rw [List.replicate_succ', tdBits_append, ih (by omega), tdBits_singleton, tdBit_preamble rfl,
      tdPreambleBit_of_one (by simp only; omega)]

theorem tdBits_preamble {s : State} (h : s.td = TDState.reset) :
    tdBits (List.replicate 9 true) s = { s with td := .inGroup 0 Frame.zero 0 0 } := by
  rw [List.replicate_succ', tdBits_append, tdBits_ones_of_lt h (by omega), tdBits_singleton, tdBit_preamble rfl,
    tdPreambleBit_of_ninth_one rfl]
  rfl

/-- Bits that fit the group are shifted in one after the other. -/
theorem tdBits_dataBits (bits : List Bool) {s : State} {j fill : Nat} {f : Frame} {nib : Nibble}
    (h : s.td = .inGroup j f nib fill) (hfit : fill + bits.length ≤ 4) :
    tdBits bits s = { s with td := .inGroup j f (bits.foldl Nibble.shiftIn nib) (fill + bits.length) } := by
  induction bits generalizing s nib fill with
  | nil => exact State.eq_with_td h
  | cons b rest ih =>
    rw [List.length_cons] at hfit
    have hbit : tdBit b s = { s with td := .inGroup j f (nib.shiftIn b) (fill + 1) } := by
      rw [tdBit_data (by rw [h]; rfl) (by rw [h]; simp only [TDState.inGroup]; omega), tdDataBit_eq, h]
      rfl
    rw [tdBits_cons, hbit, ih rfl (by omega), List.foldl_cons, List.length_cons, Nat.add_right_comm, Nat.add_assoc]

theorem foldl_shiftIn_msbFirst : ∀ n : Nibble, (msbFirst n).foldl Nibble.shiftIn 0 = n := by decide

theorem tdBits_msbFirst (n : Nibble) {s : State} {j : Nat} {f : Frame} (h : s.td = .inGroup j f 0 0) :
    tdBits (msbFirst n) s = { s with td := .inGroup j f n 4 } := by
  rw [tdBits_dataBits _ h (by simp), foldl_shiftIn_msbFirst, length_msbFirst]

theorem tdBits_groupBits (n : Nibble) {s : State} {j : Nat} {f : Frame} (h : s.td = .inGroup j f 0 0) (hj : j < 10) :
    tdBits (groupBits n) s = { s with td := .inGroup (j + 1) (f.putNibble (j / 2) (j % 2 == 0) n) 0 0 } := by
  rw [groupBits, tdBits_append, tdBits_msbFirst n h, tdBits_singleton, tdBit_fifth rfl (by simp [TDState.inGroup])]
  exact tdFifthBit_of_rowParity_eq (s := { s with td := .inGroup j f n 4 }) (Nat.le_of_lt_succ hj)

theorem tdBits_groups (l : List Nibble) {s : State} {j : Nat} {f : Frame} (h : s.td = .inGroup j f 0 0)
    (hj : j + l.length ≤ 10) :
    tdBits (l.flatMap groupBits) s = { s with td := .inGroup (j + l.length) (f.pack j l) 0 0 } := by
  induction l generalizing s j f with
  | nil => exact State.eq_with_td h
  | cons n rest ih =>
    rw [List.length_cons] at hj
    rw [List.flatMap_cons, tdBits_append, tdBits_groupBits n h (by omega), ih rfl (by omega), Frame.pack, List.length_cons,
      Nat.add_right_comm, Nat.add_assoc]

theorem tdBits_beforeGroup (id : Byte) (token : Word32) {s : State} {j : Nat} (h : s.td = TDState.reset) (hj : j ≤ 10) :
    tdBits (beforeGroup id token j) s =
      { s with td := .inGroup j (Frame.zero.pack 0 ((nibblesOf id token).take j)) 0 0 } := by
  have hlen : ((nibblesOf id token).take j).length = j := by simp [length_nibblesOf, hj]
  rw [beforeGroup, tdBits_append, tdBits_preamble h, tdBits_groups _ rfl (by omega), hlen, Nat.zero_add]

/-- A group 0 to 9 whose fifth bit is wrong. -/
theorem tdBits_wrongParity (n : Nibble) {s : State} {j : Nat} {f : Frame} (h : s.td = .inGroup j f 0 0) (hj : j < 10) :
    tdBits (msbFirst n ++ [!parity4 n]) s =
      { s with td := TDState.reset, trace := s.trace ++ [.framingFault .rowParity j] } := by
  rw [tdBits_append, tdBits_msbFirst n h, tdBits_singleton, tdBit_fifth rfl (by simp [TDState.inGroup])]
  exact tdFifthBit_of_rowParity_ne (s := { s with td := .inGroup j f n 4 }) (Nat.le_of_lt_succ hj) (Bool.not_ne_self _)

/-! ## Constant streams -/

theorem tdBit_false_of_reset {s : State} (h : s.td = TDState.reset) : tdBit false s = s := by
  rw [tdBit_preamble (by rw [h]; rfl), tdPreambleBit_of_zero, h]
  exact (State.eq_with_td h).symm

theorem tdBits_zeros {s : State} (n : Nat) (h : s.td = TDState.reset) : tdBits (List.replicate n false) s = s := by
  induction n with
  | zero => rfl
  | succ n ih => rw [List.replicate_succ, tdBits_cons, tdBit_false_of_reset h, ih]

/-- Fourteen ones: a preamble, four ones, and a fifth one where their parity is 0. -/
theorem tdBits_fourteen_ones {s : State} (h : s.td = TDState.reset) : tdBits (List.replicate 14 true) s =
    { s with trace := s.trace ++ [.framingFault .rowParity 0] } := by
  have hparts : List.replicate 14 true = List.replicate 9 true ++ (msbFirst (0xF : Nibble) ++ [!parity4 0xF]) := by decide
  rw [hparts, tdBits_append, tdBits_preamble h, tdBits_wrongParity 0xF rfl (by omega), ← h]

theorem tdBits_ones {s : State} (n : Nat) (h : s.td = TDState.reset) : tdBits (List.replicate (14 * n) true) s =
    { s with trace := s.trace ++ List.replicate n (.framingFault .rowParity 0) } := by
  induction n generalizing s with
  | zero => simp [tdBits]
  | succ n ih =>
    rw [Nat.mul_succ, Nat.add_comm, List.replicate_add, tdBits_append, tdBits_fourteen_ones h,
      ih (s := { s with trace := s.trace ++ [.framingFault .rowParity 0] }) h, List.replicate_succ]
    simp

/-- Settles O34, by induction on the number of faults and on the number of zeros. -/
theorem constantStreamsNeverDecode : Obligations.ConstantStreamsNeverDecode := by
  intro s n hc h
  refine ⟨?ones, ?zeros⟩
  case ones => rw [← List.map_replicate (f := Instr.tdBit), runInstrs_tdBits _ hc, tdBits_ones n h]
  case zeros => rw [← List.map_replicate, runInstrs_tdBits _ hc, tdBits_zeros n h]

/-! ## One flipped bit -/

theorem nibbleXor_append (a b : Nibble) : nibbleXor (a ++ b) = a ^^^ b := by
  rw [nibbleXor, BitVec.extractLsb'_append_eq_left, BitVec.extractLsb'_append_eq_right]

/-- Both halves of a byte written, one after the other. -/
theorem putHalf_low_putHalf_high (b : Byte) (m n : Nibble) : Byte.putHalf (Byte.putHalf b true m) false n = m ++ n := by
  rw [Byte.putHalf_low, Byte.putHalf_high, BitVec.extractLsb'_append_eq_left]

/-- Ten nibbles are packed two to a byte into bytes 0 to 4. -/
theorem Frame.pack_ten (f : Frame) (n0 n1 n2 n3 n4 n5 n6 n7 n8 n9 : Nibble) :
    f.pack 0 [n0, n1, n2, n3, n4, n5, n6, n7, n8, n9] = ⟨n0 ++ n1, n2 ++ n3, n4 ++ n5, n6 ++ n7, n8 ++ n9, f.b5⟩ := by
  simp only [← putHalf_low_putHalf_high f.b0 n0, ← putHalf_low_putHalf_high f.b1 n2, ← putHalf_low_putHalf_high f.b2 n4,
    ← putHalf_low_putHalf_high f.b3 n6, ← putHalf_low_putHalf_high f.b4 n8]
  rfl

/-- What TD has packed after the ten data groups of a valid frame. -/
def packedFrame (id : Byte) (token : Word32) : Frame := Frame.zero.pack 0 (nibblesOf id token)

theorem packedFrame_b0 (id : Byte) (token : Word32) : (packedFrame id token).b0 = id := by
  rw [packedFrame, nibblesOf, Frame.pack_ten, byte_of_nibbles]

theorem packedFrame_data (id : Byte) (token : Word32) :
    (packedFrame id token).b1 ++ (packedFrame id token).b2 ++ (packedFrame id token).b3 ++ (packedFrame id token).b4 =
      token := by
  rw [packedFrame, nibblesOf, Frame.pack_ten]
  simp (disch := rfl) only [BitVec.extractLsb'_append_extractLsb'_eq_extractLsb', BitVec.extractLsb'_eq_self]

theorem packedFrame_b5 (id : Byte) (token : Word32) : (packedFrame id token).b5 = 0 := by
  rw [packedFrame, nibblesOf, Frame.pack_ten, Frame.zero]

theorem packedFrame_columnNibble (id : Byte) (token : Word32) : (packedFrame id token).columnNibble = columnOf id token := by
  rw [packedFrame, nibblesOf, Frame.pack_ten]
  simp only [Frame.columnNibble, nibbleXor_append, columnOf, nibblesOf, List.foldl, ← BitVec.xor_assoc]
  simp

/-- Group 10, whatever its bits are (R174, R176, R177). -/
theorem tdBits_lastGroup (n : Nibble) (b : Bool) {s : State} {f : Frame} (h : s.td = .inGroup 10 f 0 0) (h5 : f.b5 = 0) :
    tdBits (msbFirst n ++ [b]) s = { s with
      td := TDState.reset
      trace := s.trace ++ [
        if b = true then .framingFault .stopBit 10
        else if f.columnNibble = n then .token f.b0 (f.b1 ++ f.b2 ++ f.b3 ++ f.b4)
        else .framingFault .columnParity 10] } := by
  rw [tdBits_append, tdBits_msbFirst n h, tdBits_singleton, tdBit_fifth rfl (by simp [TDState.inGroup])]
  exact tdFifthBit_of_last (s := { s with td := .inGroup 10 f n 4 }) b rfl h5

/-- The ten data groups of a valid frame, then a column nibble and a last bit that need not be its own. -/
theorem tdBits_frame_lastGroup (id : Byte) (token : Word32) (n : Nibble) (b : Bool) {s : State}
    (h : s.td = TDState.reset) :
    tdBits (beforeGroup id token 10 ++ (msbFirst n ++ [b])) s = { s with
      trace := s.trace ++ [
        if b = true then .framingFault .stopBit 10
        else if columnOf id token = n then .token id token
        else .framingFault .columnParity 10] } := by
  have hpacked : Frame.zero.pack 0 ((nibblesOf id token).take 10) = packedFrame id token := rfl
  rw [tdBits_append, tdBits_beforeGroup id token h le_rfl, hpacked, tdBits_lastGroup n b rfl (packedFrame_b5 id token),
    packedFrame_columnNibble, packedFrame_b0, packedFrame_data, ← h]

/-- Settles O33: the flipped bit leaves everything before its group as it was, so TD accepts that, and then the group's own
check fails. -/
theorem oneFlippedBitIsRejected : Obligations.OneFlippedBitIsRejected := by
  intro s id token hc h
  have hlen : (beforeGroup id token 10).length = 59 := length_beforeGroup id token le_rfl
  refine ⟨fun j hj k hk => ?group, fun k hk => ?column, ?stop⟩
  case group =>
    obtain ⟨n, rest, hframe⟩ := validFrame_eq_beforeGroup id token hj
    obtain ⟨m, hm⟩ := flipBit_groupBits n k hk
    have hbefore : (beforeGroup id token j).length = 9 + 5 * j := length_beforeGroup id token hj.le
    have hsent : (flipBit (validFrame id token) (9 + 5 * j + k)).take (14 + 5 * j) =
        beforeGroup id token j ++ (msbFirst m ++ [!parity4 m]) := by
      rw [hframe, ← hbefore, flipBit_append_right, flipBit_append_left rest (by simpa using hk), hm, ← List.append_assoc]
      exact List.take_left' (by simp [hbefore]; omega)
    rw [runInstrs_tdBits _ hc, hsent, tdBits_append, tdBits_beforeGroup id token h hj.le, tdBits_wrongParity m rfl hj, ← h]
  case column =>
    obtain ⟨m, hne, hm⟩ := flipBit_msbFirst (columnOf id token) k hk
    rw [runInstrs_tdBits _ hc, validFrame_eq_beforeColumn, ← hlen, flipBit_append_right,
      flipBit_append_left _ (by simpa using hk), hm, tdBits_frame_lastGroup id token m false h,
      if_neg Bool.false_ne_true, if_neg hne.symm]
  case stop =>
    rw [runInstrs_tdBits _ hc, validFrame_eq_beforeColumn, show 63 = 59 + 4 from rfl, ← hlen, flipBit_append_right,
      flipBit_stopBit, tdBits_frame_lastGroup id token _ true h, if_pos rfl]

end Sys2Proof.Machine
end

section
/-! PROOFS. The encoder's image through TD: the token that went in comes out (R199 (a)). -/

namespace Sys2Proof.Machine

/-- The two words of `EE.GENERATE`, in the order `f[0]` to `f[63]` (R87, R199), are the valid frame. -/
theorem lsbFirst_epromWords (id : Byte) (token : Word32) :
    lsbFirst (epromW1 id token ++ epromW0 id token) = validFrame id token := by
  rw [lsbFirst_append, epromW0, epromW1, lsbFirst_halves, lsbFirst_epromImage]

/-- A valid frame passes its ten row checks, its stop bit and its column check: one Token, TD back in its reset state. -/
theorem tdBits_validFrame (id : Byte) (token : Word32) {s : State} (h : s.td = TDState.reset) :
    tdBits (validFrame id token) s = { s with trace := s.trace ++ [.token id token] } := by
  rw [validFrame_eq_beforeColumn, tdBits_frame_lastGroup id token _ false h, if_neg Bool.false_ne_true, if_pos rfl]

/-- Settles O32: the image is the valid frame, and TD decodes the valid frame. -/
theorem encodedImageDecodesToItsToken : Obligations.EncodedImageDecodesToItsToken := by
  intro s id token hc h
  rw [lsbFirst_epromWords, runInstrs_tdBits _ hc, tdBits_validFrame id token h]

end Sys2Proof.Machine
end

section
/-! PROOFS. The commands of the tag-programming encoder and the rows that stand for them: each puts out one event, its
train or the first fault that applies, and changes nothing else (R205, R209, R217 to R224). -/

namespace Sys2Proof

/-! ## The train of a block command -/

theorem dur_mem_of_mem_trainOf {w : WriteConfig} {bits : List Bool} {smp : Sample} (h : smp ∈ trainOf w bits) :
    smp.dur ∈ ({w.tStartGap, w.tWriteGap, w.tOne, w.tZero} : Finset Nat) := by
  simp only [trainOf, List.mem_cons, List.mem_flatMap, List.not_mem_nil, or_false] at h
  rcases h with rfl | ⟨b, -, rfl | rfl⟩
  · simp [startGap]
  · cases b <;> simp [dataPulse]
  · simp [writeGap]

theorem distinctDurations_eq_card (l : List Sample) : distinctDurations l = (l.map Sample.dur).toFinset.card :=
  (List.card_toFinset _).symm

/-- The four duration parameters are all the durations a train has (R101, R221). -/
theorem distinctDurations_trainOf_le (w : WriteConfig) (bits : List Bool) : distinctDurations (trainOf w bits) ≤ 4 := by
  have hsub : ((trainOf w bits).map Sample.dur).toFinset ⊆ {w.tStartGap, w.tWriteGap, w.tOne, w.tZero} := by
    intro d hd
    obtain ⟨smp, hsmp, rfl⟩ := List.mem_map.mp (List.mem_toFinset.mp hd)
    exact dur_mem_of_mem_trainOf hsmp
  calc distinctDurations (trainOf w bits)
      = ((trainOf w bits).map Sample.dur).toFinset.card := distinctDurations_eq_card _
    _ ≤ _ := Finset.card_le_card hsub
    _ ≤ 4 := Finset.card_le_four

theorem length_trainOf_commandBits (w : WriteConfig) (page passwordSend lock : Bool) (password dataWord : Word32)
    (block : BitVec 3) :
    (trainOf w (commandBits page (if passwordSend then some password else none) lock dataWord block)).length =
      if passwordSend then 141 else 77 := by
  obtain ⟨shortForm, longForm⟩ := commandFrameLayout
  obtain ⟨hshort, -⟩ := shortForm page lock dataWord block
  obtain ⟨hlong, -⟩ := longForm page lock password dataWord block
  rw [length_trainOf]
  cases passwordSend <;> simp [hshort, hlong]

/-! ## The configuration word of an operand record -/

theorem Modulation.ofOrdinal_of_ten_le : ∀ n : BitVec 4, 10 ≤ n.toNat → Modulation.ofOrdinal n = none := by decide

theorem PskSubcarrier.ofOrdinal_three : PskSubcarrier.ofOrdinal 3 = none := rfl

theorem ParamsPort.word?_of_unnamed {p : ParamsPort} (h : 10 ≤ p.modulation.toNat ∨ p.pskSubcarrier = 3) :
    p.word? = none := by
  unfold ParamsPort.word?
  rcases h with hm | hk
  · rw [Modulation.ofOrdinal_of_ten_le _ hm]
  · rw [hk, PskSubcarrier.ofOrdinal_three]
    cases Modulation.ofOrdinal p.modulation <;> rfl

theorem ParamsPort.word?_of_named {p : ParamsPort} {m : Modulation} {k : PskSubcarrier}
    (hm : Modulation.ofOrdinal p.modulation = some m) (hk : PskSubcarrier.ofOrdinal p.pskSubcarrier = some k) :
    p.word? = some (configWord p.masterKey (DataRate.ofOrdinal p.dataRate) m k p.answerOnRequest p.maxBlock p.password
      p.sequenceTerminator p.powerOnResetDelay) := by
  simp only [ParamsPort.word?, hm, hk]

end Sys2Proof

namespace Sys2Proof.Machine

/-! ## The result of a train, and of an operand record -/

theorem trainResult_eq (w : WriteConfig) (l : List Sample) : trainResult w l =
    if w.pulseVecSize < distinctDurations l then .commandFault (.tooManyPulses (distinctDurations l))
    else if w.sampleVecSize < l.length then .commandFault (.tooManySamples l.length)
    else .train l := by
  unfold trainResult capacityFault
  by_cases hp : w.pulseVecSize < distinctDurations l
  · simp only [hp, if_true]
  · by_cases hs : w.sampleVecSize < l.length <;> simp only [hp, hs, if_true, if_false]

theorem trainResult_of_fits {w : WriteConfig} {l : List Sample} (hp : distinctDurations l ≤ w.pulseVecSize)
    (hs : l.length ≤ w.sampleVecSize) : trainResult w l = .train l := by
  rw [trainResult_eq, if_neg hp.not_gt, if_neg hs.not_gt]

theorem trainResult_of_fault {w : WriteConfig} {l : List Sample} {f : CommandFault} (h : capacityFault w l = some f) :
    trainResult w l = .commandFault f := by
  simp only [trainResult, h]

theorem paramsResult_of_word {p : ParamsPort} {word : Word32} (h : p.word? = some word) (w : WriteConfig)
    (password : Option Word32) :
    paramsResult w p password = trainResult w (trainOf w (commandBits false password p.lock word 0)) := by
  simp only [paramsResult, h]

theorem paramsResult_of_unnamed {p : ParamsPort} (h : p.word? = none) (w : WriteConfig) (password : Option Word32) :
    paramsResult w p password = .commandFault .invalidParameter := by
  simp only [paramsResult, h]

/-! ## What each command puts out, where the durations fit -/

theorem finishTrain_eq_emit (l : List Sample) (s : State) : finishTrain l s = emit (trainResult s.cfg.write l) s := by
  rw [finishTrain_eq]
  rfl

theorem exec_train {s : State} (hs : s.WriteReady) (l : List Sample) :
    exec (.train l) s = .next (emit (trainResult s.cfg.write l) s) :=
  (whenDurationsFit_of _ hs).trans (congrArg _ (finishTrain_eq_emit l s))

theorem whenDurationsFit_sendCommand {s : State} (hs : s.WriteReady) (bits : List Bool) :
    whenDurationsFit s (sendCommand bits) = .next (emit (trainResult s.cfg.write (trainOf s.cfg.write bits)) s) :=
  (whenDurationsFit_of _ hs).trans (congrArg _ (finishTrain_eq_emit _ s))

theorem exec_teEncodeBlock {s : State} (hs : s.WriteReady) (page : Bool) (block : BitVec 3) (lock passwordSend : Bool)
    (password dataWord : Word32) :
    exec (.teEncodeBlock page block lock passwordSend password dataWord) s = .next (emit (trainResult s.cfg.write
      (trainOf s.cfg.write (commandBits page (if passwordSend then some password else none) lock dataWord block))) s) :=
  whenDurationsFit_sendCommand hs _

theorem exec_teEncodeParams {s : State} (hs : s.WriteReady) (p : ParamsPort) (passwordSend : Bool) (password : Word32) :
    exec (.teEncodeParams p passwordSend password) s =
      .next (emit (paramsResult s.cfg.write p (if passwordSend then some password else none)) s) :=
  (execTeEncodeParams_eq p passwordSend password s).trans (whenDurationsFit_of _ hs)

theorem exec_teEncodeParams_of_word {s : State} (hs : s.WriteReady) {p : ParamsPort} {word : Word32}
    (hw : p.word? = some word) (passwordSend : Bool) (password : Word32) :
    exec (.teEncodeParams p passwordSend password) s = .next (emit (trainResult s.cfg.write (trainOf s.cfg.write
      (commandBits false (if passwordSend then some password else none) p.lock word 0))) s) := by
  rw [exec_teEncodeParams hs, paramsResult_of_word hw]

/-- A command-frame row is the block command that sends its frame (`notes/assumptions/1.md`). -/
theorem exec_t5557CmdShort_eq (page lock : Bool) (dataWord : Word32) (block : BitVec 3) (password : Word32) (s : State) :
    exec (.t5557CmdShort page lock dataWord block) s = exec (.teEncodeBlock page block lock false password dataWord) s :=
  rfl

theorem exec_t5557CmdLong_eq (page : Bool) (password : Word32) (lock : Bool) (dataWord : Word32) (block : BitVec 3)
    (s : State) : exec (.t5557CmdLong page password lock dataWord block) s =
      exec (.teEncodeBlock page block lock true password dataWord) s :=
  rfl

/-- The block commands and the command-frame rows that send the frame `bits` all put out the same event. -/
theorem blockCommands_putOut {s : State} (hs : s.WriteReady) {bits : List Bool} {e : Event}
    (he : trainResult s.cfg.write (trainOf s.cfg.write bits) = e) (page : Bool) (block : BitVec 3) (lock : Bool)
    (password dataWord : Word32) :
    (bits = commandBits page none lock dataWord block →
      exec (.teEncodeBlock page block lock false password dataWord) s = .next (emit e s) ∧
      exec (.t5557CmdShort page lock dataWord block) s = .next (emit e s)) ∧
    (bits = commandBits page (some password) lock dataWord block →
      exec (.teEncodeBlock page block lock true password dataWord) s = .next (emit e s) ∧
      exec (.t5557CmdLong page password lock dataWord block) s = .next (emit e s)) := by
  refine ⟨?short, ?long⟩
  case short =>
    rintro rfl
    have h : exec (.teEncodeBlock page block lock false password dataWord) s = .next (emit e s) :=
      he ▸ exec_teEncodeBlock hs page block lock false password dataWord
    exact ⟨h, (exec_t5557CmdShort_eq page lock dataWord block password s).trans h⟩
  case long =>
    rintro rfl
    have h : exec (.teEncodeBlock page block lock true password dataWord) s = .next (emit e s) :=
      he ▸ exec_teEncodeBlock hs page block lock true password dataWord
    exact ⟨h, (exec_t5557CmdLong_eq page password lock dataWord block s).trans h⟩

/-! ## The statements -/

/-- Settles O41: each of the commands puts out the result of its train, and a train that fits is its own result. -/
theorem blockCommandsPutOutTheirTrain : Obligations.BlockCommandsPutOutTheirTrain :=
  fun _ page block lock password dataWord _ hs hp hl =>
    blockCommands_putOut hs (trainResult_of_fits hp hl) page block lock password dataWord

/-- Settles O42: the result of a train, its distinct durations counted as a set. -/
theorem trainPassesTheCapacityCheck : Obligations.TrainPassesTheCapacityCheck := by
  intro s l hs
  rw [exec_train hs, trainResult_eq, distinctDurations_eq_card]
  rfl

/-- Settles O43: as O41, with the fault as the train's result. -/
theorem capacityFaultReplacesTheTrain : Obligations.CapacityFaultReplacesTheTrain := by
  intro s page block lock password dataWord p bits f hs hf
  have he := trainResult_of_fault hf
  obtain ⟨hshort, hlong⟩ := blockCommands_putOut hs he page block lock password dataWord
  refine ⟨hshort, hlong, fun word hw => ⟨?paramsShort, ?paramsLong⟩⟩
  case paramsShort =>
    rintro rfl
    exact he ▸ exec_teEncodeParams_of_word hs hw false password
  case paramsLong =>
    rintro rfl
    exact he ▸ exec_teEncodeParams_of_word hs hw true password

/-- Settles O44: a train has at most the four durations of the parameters, and 77 or 141 Samples. -/
theorem fourPulsesAndALongTrainAlwaysFit : Obligations.FourPulsesAndALongTrainAlwaysFit := by
  rintro s page block lock passwordSend password dataWord l hs hp hl rfl
  have hdistinct := distinctDurations_trainOf_le s.cfg.write
    (commandBits page (if passwordSend then some password else none) lock dataWord block)
  have hlength := length_trainOf_commandBits s.cfg.write page passwordSend lock password dataWord block
  refine ⟨?train, hlength, hdistinct⟩
  have hshorter : (if passwordSend then 141 else 77) ≤ 141 := by split <;> omega
  rw [exec_teEncodeBlock hs, trainResult_of_fits (hdistinct.trans hp) ((hlength ▸ hshorter).trans hl)]
  rfl

/-- Settles O47: the ordinal tables entry by entry, and the command through the word that the record's ordinals name. -/
theorem paramsCommandSendsTheConfigurationBlock : Obligations.ParamsCommandSendsTheConfigurationBlock := by
  refine ⟨by rfl, by rfl, by rfl, ?command⟩
  rintro s p passwordSend password m k bits hs hm hk rfl hp hl
  rw [exec_teEncodeParams_of_word hs (ParamsPort.word?_of_named hm hk), trainResult_of_fits hp hl]
  rfl

/-- Settles O48: no word, so no train is built and no capacity is checked. -/
theorem unnamedOrdinalIsAnsweredWithInvalidParameter : Obligations.UnnamedOrdinalIsAnsweredWithInvalidParameter := by
  intro s p passwordSend password hs h
  rw [exec_teEncodeParams hs, paramsResult_of_unnamed (ParamsPort.word?_of_unnamed h)]
  rfl

/-- Settles O45: the block command without its password is the short command-frame row, which has none, and
`TE.ENCODE_PARAMS` puts out its result for no password. -/
theorem unsentPasswordHasNoEffect : Obligations.UnsentPasswordHasNoEffect := by
  intro s page block lock a b dataWord params
  refine ⟨?block, ?params⟩
  case block =>
    rw [← exec_t5557CmdShort_eq page lock dataWord block a, ← exec_t5557CmdShort_eq page lock dataWord block b]
  case params =>
    have hexec (password : Word32) := execTeEncodeParams_eq params false password s
    exact (hexec a).trans (hexec b).symm

end Sys2Proof.Machine
end

section
/-! PROOFS. The reader device's wire commands, each one control transfer and nothing of CORE, and the rows of its masks
and codes (R233 to R237, R241, R269). -/

namespace Sys2Proof.Machine

/-! ## The two forms of a control transfer -/

/-- An RC byte of R236 and the rest of the response; beyond the record, the draws alone move. -/
theorem next_wireAnswer (command : Byte) (index value : BitVec 16) (rest : List Byte) (s : State) :
    ∃ d rc, (.next (wireAnswer command index value rest s) : Answer) = .next { s with
      trace := s.trace ++ [.wire command index value (WireRc.code rc :: rest)], draws := d } :=
  ⟨s.draws + 1 + rest.length, Config.freeRc s.draws, rfl⟩

/-- A response of bytes that the table does not count; beyond the record, the draws alone move. -/
theorem next_wireBulk (command : Byte) (index value : BitVec 16) (s : State) :
    ∃ d l, (.next (wireBulk command index value s) : Answer) = .next { s with
      trace := s.trace ++ [.wire command index value l], draws := d } :=
  ⟨s.draws + 1, Config.freeBulk s.draws, rfl⟩

@[simp] theorem freeBytes_zero (k : Nat) : freeBytes k 0 = [] := rfl

@[simp] theorem freeBytes_succ (k n : Nat) : freeBytes k (n + 1) = Config.freeByte k :: freeBytes (k + 1) n := by
  simp [freeBytes, List.range_succ_eq_map, Function.comp_def, Nat.add_right_comm, Nat.add_assoc]

@[simp] theorem coilAfter_zero (draw : Nat) : coilAfter 0 draw = false := rfl
@[simp] theorem coilAfter_one (draw : Nat) : coilAfter 1 draw = true := rfl

/-! ## The statements -/

/-- Settles O59: a command answers in one of the two forms of a control transfer; the wire RESET answers nothing, and it
and COIL_ENABLE set the coil. -/
theorem wireCommandsAnswerAndLeaveCoreUnchanged : Obligations.WireCommandsAnswerAndLeaveCoreUnchanged := by
  intro s flags prescaler timeout value index
  refine ⟨?nop, ?getVersion, ?reset, ?coilEnable, ?pulseRead, ?pulseWrite, ?sampleRead, ?sampleWrite, ?bufferSize,
    ?transferStart, ?transferStatus⟩
  case nop => exact next_wireAnswer 0 0 0 [] s
  case getVersion =>
    obtain ⟨d, rc, h⟩ := next_wireAnswer 1 0 0 (freeBytes (s.draws + 1) 2) s
    simp only [freeBytes_succ, freeBytes_zero] at h
    exact ⟨d, rc, _, _, h⟩
  case reset => exact ⟨s.draws + 1, Config.freeCoil s.draws, rfl⟩
  case coilEnable =>
    refine ⟨s.draws + 1, Config.freeBulk s.draws, coilAfter value s.draws, rfl, ?off, ?on⟩
    case off =>
      rintro rfl
      exact coilAfter_zero _
    case on =>
      rintro rfl
      exact coilAfter_one _
  case pulseRead => exact next_wireBulk 4 0 0 s
  case pulseWrite => exact next_wireBulk 5 0 0 s
  case sampleRead => exact next_wireBulk 6 0 0 s
  case sampleWrite => exact next_wireBulk 7 0 0 s
  case bufferSize =>
    obtain ⟨d, rc, h⟩ := next_wireAnswer 8 0 0 (freeBytes (s.draws + 1) 6) s
    simp only [freeBytes_succ, freeBytes_zero] at h
    exact ⟨d, rc, _, _, _, _, _, _, h⟩
  case transferStart =>
    obtain ⟨d, rc, h⟩ := next_wireAnswer 9 (flags ++ prescaler) timeout (freeBytes (s.draws + 1) 1) s
    simp only [freeBytes_succ, freeBytes_zero] at h
    exact ⟨d, rc, _, h⟩
  case transferStatus =>
    obtain ⟨d, rc, h⟩ := next_wireAnswer 10 index 0
      ((Config.freeStatus s.draws).code :: freeBytes (s.draws + 1) 2) s
    simp only [freeBytes_succ, freeBytes_zero] at h
    exact ⟨d, rc, Config.freeStatus s.draws, _, _, h⟩

/-- Settles O60: each row's meaning is the emission of its one value, which the tables of R234, R235 and R236 give. -/
theorem wireMasksAndCodes : Obligations.WireMasksAndCodes := by
  intro s
  and_intros <;> rfl

end Sys2Proof.Machine
end

section
/-! PROOFS. The rows of the fault codes (R251): three of the framing faults and three of a TE command's faults. -/

namespace Sys2Proof.Machine

/-- Settles O58: each row's meaning is the emission of its one code, which the tables `FramingKind.code` and
`CommandFault.code` give, the latter whatever count the fault carries. -/
theorem faultCauseCodes : Obligations.FaultCauseCodes := by
  intro s
  refine ⟨?rowParity, ?stopBit, ?columnParity, ?tooManyPulses, ?tooManySamples, ?invalidParameter⟩ <;> rfl

end Sys2Proof.Machine
end

section
/-! PROOFS. The rows that make or check a train, where they are refused (R39, R285, R296). -/

namespace Sys2Proof.Machine

/-! ## The guard on the durations, where it refuses -/

theorem whenDurationsFit_of_unsampled {s : State} (k : State → State) (h : s.cfg.read.durW ≠ s.latched.durW) :
    whenDurationsFit s k = .refused .configurationChanged := if_neg h

theorem whenDurationsFit_of_tooWide {s : State} (k : State → State) (hw : s.cfg.read.durW = s.latched.durW)
    (hfit : durationsFit s.cfg = false) : whenDurationsFit s k = .refused .durationTooWide := by
  simp [whenDurationsFit, hw, hfit]

/-- Settles O49: each of the five forms is a use of the guard `whenDurationsFit`, which refuses whatever it guards. -/
theorem wideDurationParameterIsRefused : Obligations.WideDurationParameterIsRefused := by
  intro s i hi
  have hguard : ∃ k, exec i s = whenDurationsFit s k := by
    obtain ⟨page, block, lock, pws, password, dataWord, rfl⟩ | ⟨params, pws, password, rfl⟩ |
      ⟨page, lock, dataWord, block, rfl⟩ | ⟨page, password, lock, dataWord, block, rfl⟩ | ⟨l, rfl⟩ := hi
    · exact ⟨_, rfl⟩
    · exact ⟨_, execTeEncodeParams_eq params pws password s⟩
    · exact ⟨_, rfl⟩
    · exact ⟨_, rfl⟩
    · exact ⟨_, rfl⟩
  obtain ⟨k, hk⟩ := hguard
  rw [hk]
  exact ⟨whenDurationsFit_of_tooWide k, whenDurationsFit_of_unsampled k⟩

end Sys2Proof.Machine
end

section
/-! PROOFS. What `RESET` forgets: everything but the configuration (R281, R301). -/

namespace Sys2Proof.Machine

theorem exec_reset_eq_next {s t : State} : exec .reset s = .next t ↔ t = resetCore s := by
  simp [exec, execReset, eq_comm]

theorem resetCore_core_congr {s s' : State} (h : s.cfg = s'.cfg) : (resetCore s).core = (resetCore s').core := by
  simp [State.core, h]

theorem resetCore_resetCore (s : State) : resetCore (resetCore s) = resetCore s := rfl

/-- Settles O53: every reset value is computed from the configuration, which `RESET` keeps. -/
theorem resetForgetsEverythingButTheConfiguration : Obligations.ResetForgetsEverythingButTheConfiguration := by
  intro s s' t t' hcfg ht ht'
  obtain rfl := exec_reset_eq_next.mp ht
  obtain rfl := exec_reset_eq_next.mp ht'
  exact ⟨resetCore_core_congr hcfg, exec_reset_eq_next.mpr (resetCore_resetCore s).symm⟩

end Sys2Proof.Machine
end
